-- ==== Sys2Proof/Word.lean ====
section
/-! DEFINITION. The word types of the VR4100: general registers and virtual addresses are 64 bits wide,
instruction words and physical addresses 32 bits (spec 00:R4, 20:R100, 30:R160). -/

namespace Sys2Proof

/-- A 64-bit value: a general register, a virtual address, HI, LO, PC (10:R20, R24, R28). -/
abbrev DWord := BitVec 64

/-- A 32-bit value: an instruction word or a 32-bit CP0 register (30:R160, 10:R30). -/
abbrev Word32 := BitVec 32

/-- A physical address, PSIZE = 32 (20:R100). -/
abbrev PAddr := BitVec 32

/-- The number of a 32-bit word of physical memory: a physical address without its two low bits. -/
abbrev WordAddr := BitVec 30

/-- The smallest addressable unit (20:R100). -/
abbrev Byte := BitVec 8

/-- The number of a general register or of a CP0 register (30:R161). -/
abbrev Reg := BitVec 5

end Sys2Proof
end

