-- ==== Sys2Proof/Machine/Flags.lean ====
section
/-! DEFINITION. The machine has no flags (10:R29): what takes their place are conditions on values, the operand and overflow
conditions of spec 41 and 42 and the even parity of spec 10 and 20. -/

namespace Sys2Proof.Machine

/-- `sext_32` (00:R7). -/
def sext32 (v : Word32) : DWord := v.signExtend 64

/-- The low word of a register. -/
def low32 (v : DWord) : Word32 := v.extractLsb' 0 32

/-- The high word of a register. -/
def high32 (v : DWord) : Word32 := v.extractLsb' 32 32

/-- `IsWord` (00:R7): a sign-extended 32-bit value. -/
def isWord (v : DWord) : Bool := sext32 (low32 v) == v

/-- `Is16` (00:R7): a sign-extended 16-bit value. -/
def is16 (v : DWord) : Bool := (v.extractLsb' 0 16).signExtend 64 == v

/-- An exact sum or difference that no `w`-bit two's complement value denotes (41:R271). -/
def outsideSigned (w : Nat) (x : Int) : Bool :=
  decide (x < -(2 : Int) ^ (w - 1)) || decide (2 ^ (w - 1) - 1 < x)

/-- Signed overflow of a 32-bit or 64-bit addition (41:R271). -/
def addOverflows {w : Nat} (a b : BitVec w) : Bool := outsideSigned w (a.toInt + b.toInt)

/-- Signed overflow of a 32-bit or 64-bit subtraction (41:R271). -/
def subOverflows {w : Nat} (a b : BitVec w) : Bool := outsideSigned w (a.toInt - b.toInt)

/-- The even parity bit of a value: with it the number of ones is even (10:R69, R74). -/
def evenParity {w : Nat} (v : BitVec w) : Bool :=
  (List.range w).foldl (fun acc i => acc ^^ v.getLsbD i) false

/-- One of the `n` increments of a 32-bit counter starting from `count` reaches `compare` (60:R440: "a match is never
skipped"). -/
def countReaches (count compare : Word32) (n : Nat) : Bool :=
  decide ((compare - count - 1).toNat < n)

end Sys2Proof.Machine
end

