-- ==== Sys2Proof/Config.lean ====
section
/-! DEFINITION. What an implementation fixes and the spec leaves open: the types of the parameters of spec/92
section 2, and the open constants (no body, so nothing can be proved of their values). -/

namespace Sys2Proof

/-- The two values of the parameter NonCanonicalAddr32 (20:R102, decision D7). -/
inductive NonCanonicalAddr where
  | fault
  | addressError
  deriving DecidableEq, Repr

/-- Positions of the fields of Config, the parameter ConfigLayout (10:R63, decision D5): the lowest bit of each. -/
structure ConfigLayout where
  ec : Nat
  ep : Nat
  ad : Nat
  be : Nat
  k0 : Nat
  deriving DecidableEq, Repr

/-- Positions of the fields of TagLo, the parameter TagLoLayout (10:R69, decision D5): the lowest bit of each. -/
structure TagLoLayout where
  ptag : Nat
  v : Nat
  d : Nat
  w : Nat
  wPrime : Nat
  p : Nat
  deriving DecidableEq, Repr

/-- The places where the spec leaves a value open and the machine goes on; each names what the value is for. -/
inductive OpenValue where
  /-- destination of a 32-bit operation on a non-word operand (41:R230, U11) -/
  | gprResult
  /-- whether ADD, ADDI, SUB raise Ov on a non-word operand (41:R230, U11) -/
  | overflowTaken
  /-- HI after an undefined multiply or divide (42:R297, R293, R294; U11, U12, U19, D15) -/
  | hiResult
  /-- LO after an undefined multiply or divide (42:R297, R293, R294; U11, U12, U19) -/
  | loResult
  /-- whether LWR sign-extends into the upper half of a non-word destination (40:R209, U10) -/
  | lwrExtends
  /-- the upper half MTC0 writes from a non-word (45:R362, U15) -/
  | mtc0Upper
  /-- Index.Index after a failed TLBP (45:R368) -/
  | tlbpIndex
  /-- Cause.CE after an exception other than CpU (10:R46, U20) -/
  | causeCE
  /-- Context.BadVPN2 after an address error (60:R415) -/
  | contextBadVpn2
  /-- XContext.R after an address error (60:R415) -/
  | xcontextR
  /-- XContext.BadVPN2 after an address error (60:R415) -/
  | xcontextBadVpn2
  /-- EntryHi.R after an address error (60:R415) -/
  | entryHiR
  /-- EntryHi.VPN2 after an address error (60:R415) -/
  | entryHiVpn2
  /-- the Cache Error register after a cache error exception (60:R414, U26) -/
  | cacheErr
  /-- TagLo.D after Index_Load_Tag (45:R373, U26) -/
  | tagLoD
  /-- TagLo.W after Index_Load_Tag of the instruction cache (45:R373) -/
  | tagLoW
  /-- TagLo.W' after Index_Load_Tag of the instruction cache (45:R373) -/
  | tagLoWPrime
  /-- the Parity Error register after Index_Load_Tag (45:R373, U26) -/
  | parityErr
  /-- a register that an MFHI or MFLO was given one or two instructions before a write of HI or LO (70:R470, U13) -/
  | hazard (r : Reg)
  /-- a register that an MFHI or MFLO was given, after the second instruction behind it (70:R470, U13) -/
  | hazardAfter (r : Reg)
  /-- whether a return from an exception goes on with an interrupted program that had read HI or LO into a register, at its
  address or with an instruction skipped, where the address and the registers do not say (42:R296) -/
  | resumes (skipped : Bool) (r : Reg)
  /-- whether an instruction that ends in an exception decrements Random (10:R33, D4) -/
  | randomOnException
  /-- whether a nullified delay slot decrements Random (10:R33, D4) -/
  | randomOnNullify
  /-- whether writing Count with the value of Compare sets the timer request (60:R440, U27) -/
  | timerOnCountWrite
  /-- HI after a soft reset or NMI that aborts a multiply or divide (60:R412, R413, U21) -/
  | hiOnReset
  /-- LO after a soft reset or NMI that aborts a multiply or divide (60:R412, R413, U21) -/
  | loOnReset
  /-- whether a soft reset finds the instruction at pc begun (60:R412, U21) -/
  | resetAborts
  /-- the destination of an instruction a soft reset aborts (60:R412, U21) -/
  | destinationOnReset
  /-- which words of a store a soft reset aborts have reached memory (60:R412) -/
  | memoryOnReset
  /-- the first eight bytes memory receives from a write-back with a data parity error (20:R156) -/
  | writeBackLow
  /-- the last eight bytes memory receives from a write-back with a data parity error (20:R156) -/
  | writeBackHigh
  deriving DecidableEq, Repr

namespace Config

/-- The open values: one 64-bit word for each place and each step. No body: a claim that holds of the model holds
for every choice. -/
opaque openWord : OpenValue → Nat → BitVec 64

/-- How far Count advances in the gap after a step (60:R440: "an amount the environment chooses"). -/
opaque countAdvance : Nat → Nat

/-- The parameter PRId_Rev (10:R62). -/
opaque prIdRev : BitVec 8

/-- Which fixed bits of Config read as 1 (10:R63; the figure is lost). -/
opaque configFixedBits : BitVec 32

/-- The parameter WakeOnMaskedInterrupt (60:R450, decision D18). -/
opaque wakeOnMaskedInterrupt : Bool

/-- The four word parity bits CACHE Fill takes from the Parity Error register (45:R378; which bits is not stated). -/
opaque fillParity : BitVec 8 → BitVec 4

/-- The parity bit a store with Status.CE = 1 takes from the Parity Error register for a byte lane of the doubleword
(10:R67; the assignment of bits to lanes is not stated). -/
opaque storeByteParity : BitVec 8 → BitVec 3 → Bool

end Config

end Sys2Proof
end

