-- ==== Sys2Proof/Machine/State.lean ====
section
/-! DEFINITION. The state of the machine: every piece of state spec 10 names, the external agent's data (spec 00:R9),
and four fields of the model's own, as plain data; the reasons a step can stop; the state after reset. -/

namespace Sys2Proof.Machine

/-- Why the machine stops with a fault. -/
inductive Fault where
  /-- Raised by an address translation in a 32-bit space of an address that is no sign-extended word, when the parameter
  NonCanonicalAddr32 is `fault` (20:R102). Safe: the model stops where the source says "undefined". -/
  | nonCanonicalAddress
  deriving DecidableEq, Repr

/-- Why the model gives no meaning to a step. Every constructor but the first is a case the spec calls UNDEFINED and
treats as "refuse" (spec 93); all of them are safe: the model stops where hardware may go on. -/
inductive Refusal where
  /-- Raised by an arm of `exec` whose instruction is not modelled yet. -/
  | notModelled (mnemonic : String)
  /-- Raised by a CP0 move that names an unused CP0 register (10:R31, U1). -/
  | reservedCp0Register
  /-- Raised by DMFC0 and DMTC0 naming a CP0 register 32 bits wide (45:R363, R364, U16). -/
  | cp0RegisterWidth
  /-- Raised by TLBWI and TLBWR, and by translation through an entry, with a MASK that is no page size (10:R36, U3). -/
  | illegalPageMask
  /-- Raised by a jump, a branch or ERET in a delay slot (43:R322, U14). -/
  | branchInDelaySlot
  /-- Raised when Status.KSU is 11 with EXL = ERL = 0, by the MTC0 or ERET that makes it so or by an access in that mode
  (60:R430, U17). -/
  | undefinedMode
  /-- Raised by a load or store that matches WatchLo while EXL = 1 or ERL = 1 (60:R445, U18). -/
  | watchAtExceptionLevel
  /-- Raised by an undefined COP0 encoding when CP0 is usable (30:R167, U24). -/
  | undefinedCop0
  /-- Raised by a CACHE operation code outside Table 3-12 when CP0 is usable (30:R169, U24). -/
  | undefinedCacheOp
  /-- Raised by a non-zero bit in a must-be-zero field of an instruction (30:R171, U25). -/
  | nonZeroField
  deriving DecidableEq, Repr

/-- Index (10:R32). -/
structure Index where
  p : Bool
  index : BitVec 5
  deriving DecidableEq, Repr

/-- EntryLo0 and EntryLo1 (10:R34). -/
structure EntryLo where
  pfn : BitVec 22
  c : BitVec 3
  d : Bool
  v : Bool
  g : Bool
  deriving DecidableEq, Repr

/-- Context (10:R35). -/
structure Context where
  pteBase : BitVec 39
  badVpn2 : BitVec 21
  deriving DecidableEq, Repr

/-- EntryHi (10:R40). -/
structure EntryHi where
  r : BitVec 2
  vpn2 : BitVec 29
  asid : BitVec 8
  deriving DecidableEq, Repr

/-- Status (10:R42 to R45). -/
structure Status where
  cu0 : Bool
  re : Bool
  bev : Bool
  ts : Bool
  sr : Bool
  ch : Bool
  ce : Bool
  de : Bool
  im : BitVec 8
  kx : Bool
  sx : Bool
  ux : Bool
  ksu : BitVec 2
  erl : Bool
  exl : Bool
  ie : Bool
  deriving DecidableEq, Repr

/-- Cause (10:R46, R47): what it stores; IP7 to IP2 are computed from their sources (60:R420). -/
structure Cause where
  bd : Bool
  ce : BitVec 2
  ipSw : BitVec 2
  excCode : BitVec 5
  deriving DecidableEq, Repr

/-- Config (10:R63): the fields that are not constant. -/
structure ConfigReg where
  ec : BitVec 3
  ep : BitVec 4
  ad : Bool
  be : Bool
  k0 : BitVec 3
  deriving DecidableEq, Repr

/-- WatchLo (10:R65). -/
structure WatchLo where
  paddr0 : BitVec 29
  r : Bool
  w : Bool
  deriving DecidableEq, Repr

/-- XContext (10:R66). -/
structure XContext where
  pteBase : BitVec 29
  r : BitVec 2
  badVpn2 : BitVec 29
  deriving DecidableEq, Repr

/-- TagLo (10:R69). -/
structure TagLo where
  ptag : BitVec 22
  v : Bool
  d : Bool
  w : Bool
  wPrime : Bool
  p : Bool
  deriving DecidableEq, Repr

/-- The CP0 registers (10:R30), but for PRId, WatchHi and TagHi, which are constant, and Cause's interrupt inputs. -/
structure Cp0 where
  index : Index
  random : BitVec 5
  entryLo0 : EntryLo
  entryLo1 : EntryLo
  context : Context
  pageMask : BitVec 8
  wired : BitVec 5
  badVAddr : DWord
  count : Word32
  entryHi : EntryHi
  compare : Word32
  status : Status
  cause : Cause
  epc : DWord
  config : ConfigReg
  llAddr : Word32
  watchLo : WatchLo
  xcontext : XContext
  parityErr : BitVec 8
  cacheErr : Word32
  tagLo : TagLo
  errorEpc : DWord
  deriving DecidableEq, Repr

/-- One page of a TLB entry (10:R71). -/
structure TlbPage where
  pfn : BitVec 22
  c : BitVec 3
  d : Bool
  v : Bool
  deriving DecidableEq, Repr

/-- A TLB entry, an even and an odd page (10:R71). -/
structure TlbEntry where
  mask : BitVec 8
  r : BitVec 2
  vpn2 : BitVec 29
  g : Bool
  asid : BitVec 8
  even : TlbPage
  odd : TlbPage
  deriving DecidableEq, Repr

/-- A line of the instruction cache (10:R74): sixteen bytes in address order, one parity bit for each word. -/
structure ICacheLine where
  ptag : BitVec 22
  v : Bool
  p : Bool
  data : Vector Byte 16
  dataP : BitVec 4
  deriving DecidableEq, Repr

/-- A line of the data cache (10:R75): sixteen bytes in address order, one parity bit for each byte. -/
structure DCacheLine where
  ptag : BitVec 22
  v : Bool
  p : Bool
  w : Bool
  wPrime : Bool
  data : Vector Byte 16
  dataP : BitVec 16
  deriving DecidableEq, Repr

/-- The power modes (10:R78). -/
inductive PowerMode where
  | fullspeed
  | standby
  | suspend
  | hibernate
  deriving DecidableEq, Repr

/-- The mode setting pins sampled at cold reset (00:R5). -/
structure Pins where
  bigEndian : Bool
  div2 : Bool
  hizParity : Bool
  deriving DecidableEq, Repr

/-- External memory (20:R100): the bytes that differ from what an unlisted address reads as. -/
structure Memory where
  cells : List Host.Cell
  deriving DecidableEq, Repr

/-- What the environment may do between two steps (60:R401). There is no event for a wrong SysCmdP, the parity of the command
itself: 20:R157 names the bit and gives its error no effect, and the model takes it that there is none (DESIGN CHOICE, log 38). -/
inductive EnvEvent where
  /-- the levels of Int(4:0), 1 for asserted (60:R420) -/
  | setIntPins (asserted : BitVec 5)
  /-- an external write request with this data cycle (20:R153) -/
  | externalWrite (data : Word32)
  /-- the NMI pin made active (60:R413) -/
  | nmiPin
  /-- the Reset pin asserted alone (60:R412) -/
  | softResetPin
  /-- ColdReset and Reset asserted together (60:R411) -/
  | coldResetPins
  /-- the mode setting pins changed (00:R5) -/
  | setPins (pins : Pins)
  /-- a byte of external memory changed by the external agent (20:R131) -/
  | agentWrite (addr : PAddr) (byte : Byte)
  /-- whether the read responses for a word carry an error (20:R154) -/
  | setBusError (word : WordAddr) (present : Bool)
  /-- whether the read responses for a byte carry a wrong parity bit: SysADC has one for each byte (20:R155, R157) -/
  | setBadParity (byte : PAddr) (present : Bool)
  /-- whether the external agent never responds to a read of a word (20:R154) -/
  | setNoResponse (word : WordAddr) (present : Bool)
  /-- whether the data cycles of a word in read responses disable the data check: SysCmd0 = 1 (20:R151, R157) -/
  | setUnchecked (word : WordAddr) (present : Bool)
  deriving DecidableEq, Repr

/-- What the hazard of 70:R470 asks of the last two instructions: the registers they read HI or LO into. After a return from an
exception there can be several instructions of each kind, those of the handler and of the interrupted programs (log 19). -/
structure HiLoWindow where
  /-- what the last instruction read HI or LO into -/
  last : List Reg
  /-- what the instruction before it read HI or LO into -/
  beforeLast : List Reg
  /-- the latter, if the last instruction wrote HI or LO: unspecified after the coming instruction -/
  spoiled : List Reg
  deriving DecidableEq, Repr

/-- The hazard window of an interrupted program, with what a return from an exception knows the program by (log 19). -/
structure SavedWindow where
  /-- the address at which the program goes on -/
  addr : DWord
  /-- the general registers it had -/
  gpr : Vector DWord 32
  window : HiLoWindow
  /-- a return has gone on with it, but with many other registers or after its instruction: another one may do so again -/
  resumed : Bool
  deriving DecidableEq, Repr

/-- The state of the VR4100 and of its environment. -/
structure State where
  /-- PC: the instruction to be executed (10:R24) -/
  pc : DWord
  /-- the instruction to be executed after it (10:R24) -/
  npc : DWord
  /-- the instruction at `pc` stands in a delay slot (10:R24) -/
  ds : Bool
  /-- general registers; read and written by `State.reg` and `State.setReg` only (10:R20, R21) -/
  gpr : Vector DWord 32
  /-- HI (10:R28) -/
  hi : DWord
  /-- LO (10:R28) -/
  lo : DWord
  /-- the CP0 registers (10:R30) -/
  cp0 : Cp0
  /-- the joint TLB (10:R71) -/
  tlb : Vector TlbEntry 32
  /-- the instruction cache (10:R74) -/
  icache : Vector ICacheLine 128
  /-- the data cache (10:R75) -/
  dcache : Vector DCacheLine 64
  /-- the power mode (10:R78) -/
  powerMode : PowerMode
  /-- the latch behind Cause.IP7 (60:R440) -/
  timerPending : Bool
  /-- a requested NMI (10:R77) -/
  nmiPending : Bool
  /-- Reset asserted alone (60:R401) -/
  softReset : Bool
  /-- ColdReset and Reset asserted (60:R401) -/
  coldReset : Bool
  /-- Int(4:0), 1 for asserted (10:R77) -/
  intPins : BitVec 5
  /-- the internal interrupt register (10:R77) -/
  intReg : BitVec 5
  /-- the levels of the mode setting pins (00:R5) -/
  pins : Pins
  /-- HizParity as taken at cold reset: no parity check on the system interface (00:R5, 20:R157) -/
  busParityOff : Bool
  /-- external memory (20:R100) -/
  mem : Memory
  /-- the words whose read responses carry an error (20:R154) -/
  busErrors : List WordAddr
  /-- the bytes whose read responses carry a wrong parity bit (20:R155, R157) -/
  badParity : List PAddr
  /-- the words whose reads the external agent never answers (20:R154) -/
  noResponse : List WordAddr
  /-- the words whose data cycles in read responses disable the data check (20:R151, R157) -/
  unchecked : List WordAddr
  /-- the processor is stuck until a cold or soft reset: in a read that is never answered (20:R154), or by TLB shutdown (10:R72,
  U4) -/
  hung : Bool
  /-- the events of the coming gaps between steps (60:R401) -/
  inputs : List (List EnvEvent)
  /-- the model's own: the HI/LO hazard window (70:R470) -/
  hiLo : HiLoWindow
  /-- the model's own: the window the last instruction started from, that of the branch in a delay slot -/
  hiLoPrev : HiLoWindow
  /-- the model's own: the programs that exceptions have interrupted, the last one first (42:R296) -/
  hiLoSaved : List SavedWindow
  /-- the model's own: cycles left of the last multiply or divide (42:R295) -/
  mdBusy : Nat
  /-- the model's own: the last instruction ended in an exception, in TLB shutdown or in a hang (60:R401) -/
  trapped : Bool
  /-- the model's own: counts the steps, the argument of the open values -/
  freeCount : Nat
  deriving DecidableEq, Repr

/-- The value of a CP0 field that reset leaves undefined is zero (log 1); the rest is the table of 10:R80. -/
def Cp0.reset (pins : Pins) : Cp0 where
  index := { p := false, index := 0 }
  random := 31
  entryLo0 := { pfn := 0, c := 0, d := false, v := false, g := false }
  entryLo1 := { pfn := 0, c := 0, d := false, v := false, g := false }
  context := { pteBase := 0, badVpn2 := 0 }
  pageMask := 0
  wired := 0
  badVAddr := 0
  count := 0
  entryHi := { r := 0, vpn2 := 0, asid := 0 }
  compare := 0
  status :=
    { cu0 := false, re := false, bev := true, ts := false, sr := false, ch := false, ce := false, de := false,
      im := 0, kx := false, sx := false, ux := false, ksu := 0, erl := true, exl := false, ie := false }
  cause := { bd := false, ce := 0, ipSw := 0, excCode := 0 }
  epc := 0
  config := { ec := if pins.div2 then 0 else 7, ep := 0, ad := false, be := pins.bigEndian, k0 := 0 }
  llAddr := 0
  watchLo := { paddr0 := 0, r := false, w := false }
  xcontext := { pteBase := 0, r := 0, badVpn2 := 0 }
  parityErr := 0
  cacheErr := 0
  tagLo := { ptag := 0, v := false, d := false, w := false, wPrime := false, p := false }
  errorEpc := 0

/-- A TLB entry after reset: every field zero (10:R80 leaves it undefined; log 3). -/
def TlbEntry.reset : TlbEntry where
  mask := 0
  r := 0
  vpn2 := 0
  g := false
  asid := 0
  even := { pfn := 0, c := 0, d := false, v := false }
  odd := { pfn := 0, c := 0, d := false, v := false }

/-- An instruction cache line after reset: invalid (10:R80 leaves it undefined; log 3). -/
def ICacheLine.reset : ICacheLine where
  ptag := 0
  v := false
  p := false
  data := Vector.replicate 16 0
  dataP := 0

/-- A data cache line after reset: invalid (10:R80 leaves it undefined; log 3). -/
def DCacheLine.reset : DCacheLine where
  ptag := 0
  v := false
  p := false
  w := false
  wPrime := false
  data := Vector.replicate 16 0
  dataP := 0

/-- The mode setting pins at reset: all low, so little endian and SClock = PClock (log 2). -/
def Pins.reset : Pins where
  bigEndian := false
  div2 := false
  hizParity := false

/-- No MFHI or MFLO among the last two instructions. -/
def HiLoWindow.empty : HiLoWindow where
  last := []
  beforeLast := []
  spoiled := []

/-- The machine right after a cold reset (10:R80, 60:R411): what the spec states, and for every register whose reset
value it does not state the value of log 1 to 4. -/
def State.reset : State where
  pc := 0xFFFFFFFFBFC00000
  npc := 0xFFFFFFFFBFC00004
  ds := false
  gpr := Vector.replicate 32 0
  hi := 0
  lo := 0
  cp0 := Cp0.reset Pins.reset
  tlb := Vector.replicate 32 TlbEntry.reset
  icache := Vector.replicate 128 ICacheLine.reset
  dcache := Vector.replicate 64 DCacheLine.reset
  powerMode := .fullspeed
  timerPending := false
  nmiPending := false
  softReset := false
  coldReset := false
  intPins := 0
  intReg := 0
  pins := Pins.reset
  busParityOff := Pins.reset.hizParity
  mem := { cells := [] }
  busErrors := []
  badParity := []
  noResponse := []
  unchecked := []
  hung := false
  inputs := []
  hiLo := HiLoWindow.empty
  hiLoPrev := HiLoWindow.empty
  hiLoSaved := []
  mdBusy := 0
  trapped := false
  freeCount := 0

end Sys2Proof.Machine
end

