-- ==== Sys2Proof/Syntax.lean ====
section
/-! DEFINITION. The syntax of the VR4100: one constructor for each row of spec/opcode_table.json, its arguments the
row's fields from the most significant to the least (spec 30, 40 to 46). -/

namespace Sys2Proof

/-- The instructions of the VR4100. A constructor's docstring names the row's mnemonic and its rule. -/
inductive Instr where
  /-- LB (40:R201) -/
  | lb (base : Reg) (rt : Reg) (offset : BitVec 16)
  /-- LBU (40:R202) -/
  | lbu (base : Reg) (rt : Reg) (offset : BitVec 16)
  /-- LH (40:R203) -/
  | lh (base : Reg) (rt : Reg) (offset : BitVec 16)
  /-- LHU (40:R204) -/
  | lhu (base : Reg) (rt : Reg) (offset : BitVec 16)
  /-- LW (40:R205) -/
  | lw (base : Reg) (rt : Reg) (offset : BitVec 16)
  /-- LWU (40:R206) -/
  | lwu (base : Reg) (rt : Reg) (offset : BitVec 16)
  /-- LD (40:R207) -/
  | ld (base : Reg) (rt : Reg) (offset : BitVec 16)
  /-- LWL (40:R208) -/
  | lwl (base : Reg) (rt : Reg) (offset : BitVec 16)
  /-- LWR (40:R209) -/
  | lwr (base : Reg) (rt : Reg) (offset : BitVec 16)
  /-- LDL (40:R210) -/
  | ldl (base : Reg) (rt : Reg) (offset : BitVec 16)
  /-- LDR (40:R211) -/
  | ldr (base : Reg) (rt : Reg) (offset : BitVec 16)
  /-- SB (40:R212) -/
  | sb (base : Reg) (rt : Reg) (offset : BitVec 16)
  /-- SH (40:R213) -/
  | sh (base : Reg) (rt : Reg) (offset : BitVec 16)
  /-- SW (40:R214) -/
  | sw (base : Reg) (rt : Reg) (offset : BitVec 16)
  /-- SD (40:R215) -/
  | sd (base : Reg) (rt : Reg) (offset : BitVec 16)
  /-- SWL (40:R216) -/
  | swl (base : Reg) (rt : Reg) (offset : BitVec 16)
  /-- SWR (40:R217) -/
  | swr (base : Reg) (rt : Reg) (offset : BitVec 16)
  /-- SDL (40:R218) -/
  | sdl (base : Reg) (rt : Reg) (offset : BitVec 16)
  /-- SDR (40:R219) -/
  | sdr (base : Reg) (rt : Reg) (offset : BitVec 16)
  /-- ADDI (41:R231) -/
  | addi (rs : Reg) (rt : Reg) (imm : BitVec 16)
  /-- ADDIU (41:R232) -/
  | addiu (rs : Reg) (rt : Reg) (imm : BitVec 16)
  /-- SLTI (41:R233) -/
  | slti (rs : Reg) (rt : Reg) (imm : BitVec 16)
  /-- SLTIU (41:R234) -/
  | sltiu (rs : Reg) (rt : Reg) (imm : BitVec 16)
  /-- ANDI (41:R235) -/
  | andi (rs : Reg) (rt : Reg) (imm : BitVec 16)
  /-- ORI (41:R236) -/
  | ori (rs : Reg) (rt : Reg) (imm : BitVec 16)
  /-- XORI (41:R237) -/
  | xori (rs : Reg) (rt : Reg) (imm : BitVec 16)
  /-- DADDI (41:R239) -/
  | daddi (rs : Reg) (rt : Reg) (imm : BitVec 16)
  /-- DADDIU (41:R240) -/
  | daddiu (rs : Reg) (rt : Reg) (imm : BitVec 16)
  /-- LUI (41:R238) -/
  | lui (rt : Reg) (imm : BitVec 16)
  /-- ADD (41:R241) -/
  | add (rs : Reg) (rt : Reg) (rd : Reg)
  /-- ADDU (41:R242) -/
  | addu (rs : Reg) (rt : Reg) (rd : Reg)
  /-- SUB (41:R243) -/
  | sub (rs : Reg) (rt : Reg) (rd : Reg)
  /-- SUBU (41:R244) -/
  | subu (rs : Reg) (rt : Reg) (rd : Reg)
  /-- SLT (41:R245) -/
  | slt (rs : Reg) (rt : Reg) (rd : Reg)
  /-- SLTU (41:R246) -/
  | sltu (rs : Reg) (rt : Reg) (rd : Reg)
  /-- AND (41:R247) -/
  | and (rs : Reg) (rt : Reg) (rd : Reg)
  /-- OR (41:R248) -/
  | or (rs : Reg) (rt : Reg) (rd : Reg)
  /-- XOR (41:R249) -/
  | xor (rs : Reg) (rt : Reg) (rd : Reg)
  /-- NOR (41:R250) -/
  | nor (rs : Reg) (rt : Reg) (rd : Reg)
  /-- DADD (41:R251) -/
  | dadd (rs : Reg) (rt : Reg) (rd : Reg)
  /-- DADDU (41:R252) -/
  | daddu (rs : Reg) (rt : Reg) (rd : Reg)
  /-- DSUB (41:R253) -/
  | dsub (rs : Reg) (rt : Reg) (rd : Reg)
  /-- DSUBU (41:R254) -/
  | dsubu (rs : Reg) (rt : Reg) (rd : Reg)
  /-- SLL (41:R255) -/
  | sll (rt : Reg) (rd : Reg) (sa : BitVec 5)
  /-- SRL (41:R256) -/
  | srl (rt : Reg) (rd : Reg) (sa : BitVec 5)
  /-- SRA (41:R257) -/
  | sra (rt : Reg) (rd : Reg) (sa : BitVec 5)
  /-- DSLL (41:R261) -/
  | dsll (rt : Reg) (rd : Reg) (sa : BitVec 5)
  /-- DSRL (41:R262) -/
  | dsrl (rt : Reg) (rd : Reg) (sa : BitVec 5)
  /-- DSRA (41:R263) -/
  | dsra (rt : Reg) (rd : Reg) (sa : BitVec 5)
  /-- DSLL32 (41:R267) -/
  | dsll32 (rt : Reg) (rd : Reg) (sa : BitVec 5)
  /-- DSRL32 (41:R268) -/
  | dsrl32 (rt : Reg) (rd : Reg) (sa : BitVec 5)
  /-- DSRA32 (41:R269) -/
  | dsra32 (rt : Reg) (rd : Reg) (sa : BitVec 5)
  /-- SLLV (41:R258) -/
  | sllv (rs : Reg) (rt : Reg) (rd : Reg)
  /-- SRLV (41:R259) -/
  | srlv (rs : Reg) (rt : Reg) (rd : Reg)
  /-- SRAV (41:R260) -/
  | srav (rs : Reg) (rt : Reg) (rd : Reg)
  /-- DSLLV (41:R264) -/
  | dsllv (rs : Reg) (rt : Reg) (rd : Reg)
  /-- DSRLV (41:R265) -/
  | dsrlv (rs : Reg) (rt : Reg) (rd : Reg)
  /-- DSRAV (41:R266) -/
  | dsrav (rs : Reg) (rt : Reg) (rd : Reg)
  /-- MULT (42:R281) -/
  | mult (rs : Reg) (rt : Reg)
  /-- MULTU (42:R282) -/
  | multu (rs : Reg) (rt : Reg)
  /-- DIV (42:R283) -/
  | div (rs : Reg) (rt : Reg)
  /-- DIVU (42:R284) -/
  | divu (rs : Reg) (rt : Reg)
  /-- DMULT (42:R285) -/
  | dmult (rs : Reg) (rt : Reg)
  /-- DMULTU (42:R286) -/
  | dmultu (rs : Reg) (rt : Reg)
  /-- DDIV (42:R287) -/
  | ddiv (rs : Reg) (rt : Reg)
  /-- DDIVU (42:R288) -/
  | ddivu (rs : Reg) (rt : Reg)
  /-- MFHI (42:R289) -/
  | mfhi (rd : Reg)
  /-- MTHI (42:R290) -/
  | mthi (rs : Reg)
  /-- MFLO (42:R291) -/
  | mflo (rd : Reg)
  /-- MTLO (42:R292) -/
  | mtlo (rs : Reg)
  /-- MADD16 (42:R293) -/
  | madd16 (rs : Reg) (rt : Reg)
  /-- DMADD16 (42:R294) -/
  | dmadd16 (rs : Reg) (rt : Reg)
  /-- J (43:R301) -/
  | j (target : BitVec 26)
  /-- JAL (43:R302) -/
  | jal (target : BitVec 26)
  /-- JR (43:R303) -/
  | jr (rs : Reg)
  /-- JALR (43:R304) -/
  | jalr (rs : Reg) (rd : Reg)
  /-- BEQ (43:R305) -/
  | beq (rs : Reg) (rt : Reg) (offset : BitVec 16)
  /-- BNE (43:R306) -/
  | bne (rs : Reg) (rt : Reg) (offset : BitVec 16)
  /-- BLEZ (43:R307) -/
  | blez (rs : Reg) (offset : BitVec 16)
  /-- BGTZ (43:R308) -/
  | bgtz (rs : Reg) (offset : BitVec 16)
  /-- BLTZ (43:R309) -/
  | bltz (rs : Reg) (offset : BitVec 16)
  /-- BGEZ (43:R310) -/
  | bgez (rs : Reg) (offset : BitVec 16)
  /-- BLTZAL (43:R311) -/
  | bltzal (rs : Reg) (offset : BitVec 16)
  /-- BGEZAL (43:R312) -/
  | bgezal (rs : Reg) (offset : BitVec 16)
  /-- BLTZL (43:R317) -/
  | bltzl (rs : Reg) (offset : BitVec 16)
  /-- BGEZL (43:R318) -/
  | bgezl (rs : Reg) (offset : BitVec 16)
  /-- BLTZALL (43:R319) -/
  | bltzall (rs : Reg) (offset : BitVec 16)
  /-- BGEZALL (43:R320) -/
  | bgezall (rs : Reg) (offset : BitVec 16)
  /-- BEQL (43:R313) -/
  | beql (rs : Reg) (rt : Reg) (offset : BitVec 16)
  /-- BNEL (43:R314) -/
  | bnel (rs : Reg) (rt : Reg) (offset : BitVec 16)
  /-- BLEZL (43:R315) -/
  | blezl (rs : Reg) (offset : BitVec 16)
  /-- BGTZL (43:R316) -/
  | bgtzl (rs : Reg) (offset : BitVec 16)
  /-- SYSCALL (44:R330) -/
  | syscall (code : BitVec 20)
  /-- BREAK (44:R331) -/
  | brk (code : BitVec 20)
  /-- SYNC (44:R332) -/
  | sync
  /-- TGE (44:R333) -/
  | tge (rs : Reg) (rt : Reg) (code : BitVec 10)
  /-- TGEU (44:R334) -/
  | tgeu (rs : Reg) (rt : Reg) (code : BitVec 10)
  /-- TLT (44:R335) -/
  | tlt (rs : Reg) (rt : Reg) (code : BitVec 10)
  /-- TLTU (44:R336) -/
  | tltu (rs : Reg) (rt : Reg) (code : BitVec 10)
  /-- TEQ (44:R337) -/
  | teq (rs : Reg) (rt : Reg) (code : BitVec 10)
  /-- TNE (44:R338) -/
  | tne (rs : Reg) (rt : Reg) (code : BitVec 10)
  /-- TGEI (44:R339) -/
  | tgei (rs : Reg) (imm : BitVec 16)
  /-- TGEIU (44:R340) -/
  | tgeiu (rs : Reg) (imm : BitVec 16)
  /-- TLTI (44:R341) -/
  | tlti (rs : Reg) (imm : BitVec 16)
  /-- TLTIU (44:R342) -/
  | tltiu (rs : Reg) (imm : BitVec 16)
  /-- TEQI (44:R343) -/
  | teqi (rs : Reg) (imm : BitVec 16)
  /-- TNEI (44:R344) -/
  | tnei (rs : Reg) (imm : BitVec 16)
  /-- LL (44:R345) -/
  | ll (base : Reg) (rt : Reg) (offset : BitVec 16)
  /-- SC (44:R346) -/
  | sc (base : Reg) (rt : Reg) (offset : BitVec 16)
  /-- LLD (44:R347) -/
  | lld (base : Reg) (rt : Reg) (offset : BitVec 16)
  /-- SCD (44:R348) -/
  | scd (base : Reg) (rt : Reg) (offset : BitVec 16)
  /-- COP1 (44:R349) -/
  | cop1 (cofun : BitVec 26)
  /-- LWC1 (44:R350) -/
  | lwc1 (base : Reg) (ft : Reg) (offset : BitVec 16)
  /-- SWC1 (44:R351) -/
  | swc1 (base : Reg) (ft : Reg) (offset : BitVec 16)
  /-- LDC1 (44:R352) -/
  | ldc1 (base : Reg) (ft : Reg) (offset : BitVec 16)
  /-- SDC1 (44:R353) -/
  | sdc1 (base : Reg) (ft : Reg) (offset : BitVec 16)
  /-- COP2 (44:R354) -/
  | cop2 (cofun : BitVec 26)
  /-- COP3 (44:R354) -/
  | cop3 (cofun : BitVec 26)
  /-- LWC2 (44:R354) -/
  | lwc2 (base : Reg) (rt : Reg) (offset : BitVec 16)
  /-- SWC2 (44:R354) -/
  | swc2 (base : Reg) (rt : Reg) (offset : BitVec 16)
  /-- LDC2 (44:R354) -/
  | ldc2 (base : Reg) (rt : Reg) (offset : BitVec 16)
  /-- SDC2 (44:R354) -/
  | sdc2 (base : Reg) (rt : Reg) (offset : BitVec 16)
  /-- MFC0 (45:R361) -/
  | mfc0 (rt : Reg) (rd : Reg)
  /-- MTC0 (45:R362) -/
  | mtc0 (rt : Reg) (rd : Reg)
  /-- DMFC0 (45:R363) -/
  | dmfc0 (rt : Reg) (rd : Reg)
  /-- DMTC0 (45:R364) -/
  | dmtc0 (rt : Reg) (rd : Reg)
  /-- TLBR (45:R365) -/
  | tlbr
  /-- TLBWI (45:R366) -/
  | tlbwi
  /-- TLBWR (45:R367) -/
  | tlbwr
  /-- TLBP (45:R368) -/
  | tlbp
  /-- ERET (45:R369) -/
  | eret
  /-- CACHE_Index_Invalidate_I (45:R371) -/
  | cacheIndexInvalidateI (base : Reg) (offset : BitVec 16)
  /-- CACHE_Index_WriteBack_Invalidate_D (45:R372) -/
  | cacheIndexWriteBackInvalidateD (base : Reg) (offset : BitVec 16)
  /-- CACHE_Index_Load_Tag_I (45:R373) -/
  | cacheIndexLoadTagI (base : Reg) (offset : BitVec 16)
  /-- CACHE_Index_Load_Tag_D (45:R373) -/
  | cacheIndexLoadTagD (base : Reg) (offset : BitVec 16)
  /-- CACHE_Index_Store_Tag_I (45:R374) -/
  | cacheIndexStoreTagI (base : Reg) (offset : BitVec 16)
  /-- CACHE_Index_Store_Tag_D (45:R374) -/
  | cacheIndexStoreTagD (base : Reg) (offset : BitVec 16)
  /-- CACHE_Create_Dirty_D (45:R375) -/
  | cacheCreateDirtyD (base : Reg) (offset : BitVec 16)
  /-- CACHE_Hit_Invalidate_I (45:R376) -/
  | cacheHitInvalidateI (base : Reg) (offset : BitVec 16)
  /-- CACHE_Hit_Invalidate_D (45:R377) -/
  | cacheHitInvalidateD (base : Reg) (offset : BitVec 16)
  /-- CACHE_Fill_I (45:R378) -/
  | cacheFillI (base : Reg) (offset : BitVec 16)
  /-- CACHE_Hit_WriteBack_Invalidate_D (45:R379) -/
  | cacheHitWriteBackInvalidateD (base : Reg) (offset : BitVec 16)
  /-- CACHE_Hit_WriteBack_I (45:R380) -/
  | cacheHitWriteBackI (base : Reg) (offset : BitVec 16)
  /-- CACHE_Hit_WriteBack_D (45:R381) -/
  | cacheHitWriteBackD (base : Reg) (offset : BitVec 16)
  /-- STANDBY (46:R390) -/
  | standby
  /-- SUSPEND (46:R391) -/
  | suspend
  /-- HIBERNATE (46:R392) -/
  | hibernate
  deriving DecidableEq, Repr

end Sys2Proof
end

