-- ==== Sys2Proof/WellFormed.lean ====
section
/-! DEFINITION. Well-formed instructions: those whose operands the spec does not forbid. The widths of the fields are in
their types, so only the restrictions the spec states in words are checked here. -/

namespace Sys2Proof

/-- The unused CP0 register numbers (10:R31). -/
def cp0Unused (rd : Reg) : Bool :=
  rd == 7 || (21 ≤ rd && rd ≤ 25) || rd == 31

/-- The CP0 registers 64 bits wide (10:R30): EntryLo0, EntryLo1, Context, BadVAddr, EntryHi, EPC, XContext, ErrorEPC. -/
def cp0Wide (rd : Reg) : Bool :=
  rd == 2 || rd == 3 || rd == 4 || rd == 8 || rd == 10 || rd == 14 || rd == 20 || rd == 30

/-- An instruction that keeps to the operand restrictions of the spec: a CP0 move names a register that exists (10:R31)
and, for the doubleword moves, one 64 bits wide (45:R363, R364); JALR has different registers (43:R304); a branch that
links does not test r31 (43:R311, R312, R319, R320). -/
def Instr.WellFormed : Instr → Bool
  | .mfc0 _ rd => !cp0Unused rd
  | .mtc0 _ rd => !cp0Unused rd
  | .dmfc0 _ rd => cp0Wide rd
  | .dmtc0 _ rd => cp0Wide rd
  | .jalr rs rd => rs != rd
  | .bltzal rs _ => rs != 31
  | .bgezal rs _ => rs != 31
  | .bltzall rs _ => rs != 31
  | .bgezall rs _ => rs != 31
  | .lb _ _ _ => true
  | .lbu _ _ _ => true
  | .lh _ _ _ => true
  | .lhu _ _ _ => true
  | .lw _ _ _ => true
  | .lwu _ _ _ => true
  | .ld _ _ _ => true
  | .lwl _ _ _ => true
  | .lwr _ _ _ => true
  | .ldl _ _ _ => true
  | .ldr _ _ _ => true
  | .sb _ _ _ => true
  | .sh _ _ _ => true
  | .sw _ _ _ => true
  | .sd _ _ _ => true
  | .swl _ _ _ => true
  | .swr _ _ _ => true
  | .sdl _ _ _ => true
  | .sdr _ _ _ => true
  | .addi _ _ _ => true
  | .addiu _ _ _ => true
  | .slti _ _ _ => true
  | .sltiu _ _ _ => true
  | .andi _ _ _ => true
  | .ori _ _ _ => true
  | .xori _ _ _ => true
  | .daddi _ _ _ => true
  | .daddiu _ _ _ => true
  | .lui _ _ => true
  | .add _ _ _ => true
  | .addu _ _ _ => true
  | .sub _ _ _ => true
  | .subu _ _ _ => true
  | .slt _ _ _ => true
  | .sltu _ _ _ => true
  | .and _ _ _ => true
  | .or _ _ _ => true
  | .xor _ _ _ => true
  | .nor _ _ _ => true
  | .dadd _ _ _ => true
  | .daddu _ _ _ => true
  | .dsub _ _ _ => true
  | .dsubu _ _ _ => true
  | .sll _ _ _ => true
  | .srl _ _ _ => true
  | .sra _ _ _ => true
  | .dsll _ _ _ => true
  | .dsrl _ _ _ => true
  | .dsra _ _ _ => true
  | .dsll32 _ _ _ => true
  | .dsrl32 _ _ _ => true
  | .dsra32 _ _ _ => true
  | .sllv _ _ _ => true
  | .srlv _ _ _ => true
  | .srav _ _ _ => true
  | .dsllv _ _ _ => true
  | .dsrlv _ _ _ => true
  | .dsrav _ _ _ => true
  | .mult _ _ => true
  | .multu _ _ => true
  | .div _ _ => true
  | .divu _ _ => true
  | .dmult _ _ => true
  | .dmultu _ _ => true
  | .ddiv _ _ => true
  | .ddivu _ _ => true
  | .mfhi _ => true
  | .mthi _ => true
  | .mflo _ => true
  | .mtlo _ => true
  | .madd16 _ _ => true
  | .dmadd16 _ _ => true
  | .j _ => true
  | .jal _ => true
  | .jr _ => true
  | .beq _ _ _ => true
  | .bne _ _ _ => true
  | .blez _ _ => true
  | .bgtz _ _ => true
  | .bltz _ _ => true
  | .bgez _ _ => true
  | .bltzl _ _ => true
  | .bgezl _ _ => true
  | .beql _ _ _ => true
  | .bnel _ _ _ => true
  | .blezl _ _ => true
  | .bgtzl _ _ => true
  | .syscall _ => true
  | .brk _ => true
  | .sync => true
  | .tge _ _ _ => true
  | .tgeu _ _ _ => true
  | .tlt _ _ _ => true
  | .tltu _ _ _ => true
  | .teq _ _ _ => true
  | .tne _ _ _ => true
  | .tgei _ _ => true
  | .tgeiu _ _ => true
  | .tlti _ _ => true
  | .tltiu _ _ => true
  | .teqi _ _ => true
  | .tnei _ _ => true
  | .ll _ _ _ => true
  | .sc _ _ _ => true
  | .lld _ _ _ => true
  | .scd _ _ _ => true
  | .cop1 _ => true
  | .lwc1 _ _ _ => true
  | .swc1 _ _ _ => true
  | .ldc1 _ _ _ => true
  | .sdc1 _ _ _ => true
  | .cop2 _ => true
  | .cop3 _ => true
  | .lwc2 _ _ _ => true
  | .swc2 _ _ _ => true
  | .ldc2 _ _ _ => true
  | .sdc2 _ _ _ => true
  | .tlbr => true
  | .tlbwi => true
  | .tlbwr => true
  | .tlbp => true
  | .eret => true
  | .cacheIndexInvalidateI _ _ => true
  | .cacheIndexWriteBackInvalidateD _ _ => true
  | .cacheIndexLoadTagI _ _ => true
  | .cacheIndexLoadTagD _ _ => true
  | .cacheIndexStoreTagI _ _ => true
  | .cacheIndexStoreTagD _ _ => true
  | .cacheCreateDirtyD _ _ => true
  | .cacheHitInvalidateI _ _ => true
  | .cacheHitInvalidateD _ _ => true
  | .cacheFillI _ _ => true
  | .cacheHitWriteBackInvalidateD _ _ => true
  | .cacheHitWriteBackI _ _ => true
  | .cacheHitWriteBackD _ _ => true
  | .standby => true
  | .suspend => true
  | .hibernate => true

end Sys2Proof
end

