-- ==== Sys2Proof/Machine/Registers.lean ====
section
/-! DEFINITION. The registers and what is computed from them: general registers (10:R20, R21), operating mode and enables
(60:R430 to R432, 45:R360), the images of the CP0 registers (10:R30 to R70), writes to them (45:R383), the open values. -/

namespace Sys2Proof.Machine

/-- The open value for a place, at this step: unconstrained (log 12). -/
def State.freeWord (t : OpenValue) (s : State) : BitVec 64 := Config.openWord t s.freeCount

/-- The open choice for a place, at this step. -/
def State.freeBit (t : OpenValue) (s : State) : Bool := (s.freeWord t).getLsbD 0

/-- The open value for a place, at this step, cut to a width. -/
def State.freeBits (t : OpenValue) (w : Nat) (s : State) : BitVec w := (s.freeWord t).setWidth w

/-- `x[r]`: r0 reads 0 (10:R21). -/
def State.reg (r : Reg) (s : State) : DWord :=
  if r = 0 then 0 else s.gpr[r.toNat]'r.isLt

/-- `x[r] <- v`: a write to r0 is discarded (10:R21). -/
def State.setReg (r : Reg) (v : DWord) (s : State) : State :=
  if r = 0 then s else { s with gpr := s.gpr.set r.toNat v r.isLt }

/-- Changes the CP0 registers only. -/
def State.mapCp0 (f : Cp0 → Cp0) (s : State) : State := { s with cp0 := f s.cp0 }

/-- Changes Status only. -/
def State.mapStatus (f : Status → Status) (s : State) : State :=
  s.mapCp0 fun c => { c with status := f c.status }

/-- Operating modes, with the combination of Status bits that names none (60:R430). -/
inductive Mode where
  | kernel
  | supervisor
  | user
  | undefined
  deriving DecidableEq, Repr

/-- The operating mode (60:R430). -/
def Status.mode (st : Status) : Mode :=
  if st.erl || st.exl then .kernel
  else match st.ksu.toNat with
    | 0 => .kernel
    | 1 => .supervisor
    | 2 => .user
    | _ => .undefined

/-- The operating mode of the machine. -/
def State.mode (s : State) : Mode := s.cp0.status.mode

/-- `Is64bitOps` (60:R432). -/
def State.is64bitOps (s : State) : Bool :=
  match s.mode with
  | .kernel => true
  | .supervisor => s.cp0.status.sx
  | .user => s.cp0.status.ux
  | .undefined => false

/-- `Is64bitAddr` (60:R432). -/
def State.is64bitAddr (s : State) : Bool :=
  match s.mode with
  | .kernel => s.cp0.status.kx
  | .supervisor => s.cp0.status.sx
  | .user => s.cp0.status.ux
  | .undefined => false

/-- `CP0usable` (45:R360). -/
def State.cp0Usable (s : State) : Bool :=
  s.mode == .kernel || s.cp0.status.cu0

/-- `ReverseEndian` (20:R110). -/
def State.reverseEndian (s : State) : Bool := s.cp0.status.re && s.mode == .user

/-- `BigEndianCPU` (20:R110). -/
def State.bigEndianCpu (s : State) : Bool := s.cp0.config.be ^^ s.reverseEndian

/-- Cause.IP (60:R420): the timer, the pins or'ed with the interrupt register, the two software bits. -/
def State.causeIp (s : State) : BitVec 8 :=
  BitVec.ofBool s.timerPending ++ (s.intPins ||| s.intReg) ++ s.cp0.cause.ipSw

/-- `InterruptEnabledAndPending` (60:R428). -/
def State.interruptPending (s : State) : Bool :=
  s.cp0.status.ie && !s.cp0.status.exl && !s.cp0.status.erl && s.causeIp &&& s.cp0.status.im != 0

/-- The layout of Config: the positions the spec offers as default (10:R63, D5; PRESUMED, log 7). -/
def configLayout : ConfigLayout := { ec := 28, ep := 24, ad := 23, be := 15, k0 := 0 }

/-- The bits of Config that belong to a field, so that no fixed bit stands there: EC, EP, AD, BE, IC (11..9), DC (8..6),
IB (5), DB (4), K0 (10:R63). -/
def configFieldMask : Word32 := 0x7F808FF7

/-- The layout of TagLo, taken from the VR4100 family (10:R69; PRESUMED, log 8). -/
def tagLoLayout : TagLoLayout := { ptag := 10, v := 9, d := 8, w := 7, wPrime := 1, p := 0 }

/-- A field placed in a 32-bit register at a bit position. -/
def place32 {w : Nat} (v : BitVec w) (at_ : Nat) : Word32 := v.setWidth 32 <<< at_

def Index.image (x : Index) : Word32 := BitVec.ofBool x.p ++ (0 : BitVec 26) ++ x.index

def EntryLo.image (x : EntryLo) : DWord :=
  (0 : BitVec 36) ++ x.pfn ++ x.c ++ BitVec.ofBool x.d ++ BitVec.ofBool x.v ++ BitVec.ofBool x.g

def Context.image (x : Context) : DWord := x.pteBase ++ x.badVpn2 ++ (0 : BitVec 4)

def EntryHi.image (x : EntryHi) : DWord := x.r ++ (0 : BitVec 22) ++ x.vpn2 ++ (0 : BitVec 3) ++ x.asid

/-- Status as a word (10:R42, R44). -/
def Status.image (x : Status) : Word32 :=
  (0 : BitVec 3) ++ BitVec.ofBool x.cu0 ++ (0 : BitVec 2) ++ BitVec.ofBool x.re ++ (0 : BitVec 2)
    ++ BitVec.ofBool x.bev ++ BitVec.ofBool x.ts ++ BitVec.ofBool x.sr ++ (0 : BitVec 1)
    ++ BitVec.ofBool x.ch ++ BitVec.ofBool x.ce ++ BitVec.ofBool x.de ++ x.im
    ++ BitVec.ofBool x.kx ++ BitVec.ofBool x.sx ++ BitVec.ofBool x.ux ++ x.ksu
    ++ BitVec.ofBool x.erl ++ BitVec.ofBool x.exl ++ BitVec.ofBool x.ie

/-- Cause as a word, with the interrupt bits of the moment (10:R46). -/
def Cause.image (x : Cause) (ip : BitVec 8) : Word32 :=
  BitVec.ofBool x.bd ++ (0 : BitVec 1) ++ x.ce ++ (0 : BitVec 12) ++ ip ++ (0 : BitVec 1) ++ x.excCode ++ (0 : BitVec 2)

/-- PRId (10:R62). -/
def prIdImage : Word32 := (0 : BitVec 16) ++ (0x0C : BitVec 8) ++ Config.prIdRev

/-- Config as a word; IC, DC, IB and DB read 0 (10:R63). -/
def ConfigReg.image (x : ConfigReg) : Word32 :=
  place32 x.ec configLayout.ec ||| place32 x.ep configLayout.ep ||| place32 (BitVec.ofBool x.ad) configLayout.ad
    ||| place32 (BitVec.ofBool x.be) configLayout.be ||| place32 x.k0 configLayout.k0
    ||| (Config.configFixedBits &&& ~~~configFieldMask)

def WatchLo.image (x : WatchLo) : Word32 := x.paddr0 ++ (0 : BitVec 1) ++ BitVec.ofBool x.r ++ BitVec.ofBool x.w

def XContext.image (x : XContext) : DWord := x.pteBase ++ x.r ++ x.badVpn2 ++ (0 : BitVec 4)

/-- TagLo as a word (10:R69). -/
def TagLo.image (x : TagLo) : Word32 :=
  place32 x.ptag tagLoLayout.ptag ||| place32 (BitVec.ofBool x.v) tagLoLayout.v
    ||| place32 (BitVec.ofBool x.d) tagLoLayout.d ||| place32 (BitVec.ofBool x.w) tagLoLayout.w
    ||| place32 (BitVec.ofBool x.wPrime) tagLoLayout.wPrime ||| place32 (BitVec.ofBool x.p) tagLoLayout.p

/-- The value a CP0 register gives on a read, 64 bits wide; a 32-bit register in the low half (10:R30; 45:R361, R363). -/
def State.cp0Read (rd : Reg) (s : State) : DWord :=
  let c := s.cp0
  match rd.toNat with
  | 0 => c.index.image.setWidth 64
  | 1 => c.random.setWidth 64
  | 2 => c.entryLo0.image
  | 3 => c.entryLo1.image
  | 4 => c.context.image
  | 5 => ((0 : BitVec 13) ++ c.pageMask ++ (0 : BitVec 11)).setWidth 64
  | 6 => c.wired.setWidth 64
  | 8 => c.badVAddr
  | 9 => c.count.setWidth 64
  | 10 => c.entryHi.image
  | 11 => c.compare.setWidth 64
  | 12 => c.status.image.setWidth 64
  | 13 => (c.cause.image s.causeIp).setWidth 64
  | 14 => c.epc
  | 15 => prIdImage.setWidth 64
  | 16 => c.config.image.setWidth 64
  | 17 => c.llAddr.setWidth 64
  | 18 => c.watchLo.image.setWidth 64
  | 20 => c.xcontext.image
  | 26 => c.parityErr.setWidth 64
  | 27 => c.cacheErr.setWidth 64
  | 28 => c.tagLo.image.setWidth 64
  | 30 => c.errorEpc
  | _ => 0

/-- EntryLo0 or EntryLo1 from the value written (45:R383 rows 2 and 3). -/
def EntryLo.ofImage (w : DWord) : EntryLo where
  pfn := w.extractLsb' 6 22
  c := w.extractLsb' 3 3
  d := w.getLsbD 2
  v := w.getLsbD 1
  g := w.getLsbD 0

/-- Status from the value written; TS is read-only (45:R383 row 12, 10:R45). -/
def Status.write (w : DWord) (x : Status) : Status where
  cu0 := w.getLsbD 28
  re := w.getLsbD 25
  bev := w.getLsbD 22
  ts := x.ts
  sr := w.getLsbD 20
  ch := w.getLsbD 18
  ce := w.getLsbD 17
  de := w.getLsbD 16
  im := w.extractLsb' 8 8
  kx := w.getLsbD 7
  sx := w.getLsbD 6
  ux := w.getLsbD 5
  ksu := w.extractLsb' 3 2
  erl := w.getLsbD 2
  exl := w.getLsbD 1
  ie := w.getLsbD 0

/-- TagLo from the value written (45:R383 row 28). -/
def TagLo.ofImage (w : DWord) : TagLo where
  ptag := w.extractLsb' tagLoLayout.ptag 22
  v := w.getLsbD tagLoLayout.v
  d := w.getLsbD tagLoLayout.d
  w := w.getLsbD tagLoLayout.w
  wPrime := w.getLsbD tagLoLayout.wPrime
  p := w.getLsbD tagLoLayout.p

/-- `CP0write(rd, w)` (45:R383): the fields each register takes from the value; RFU bits are dropped (D3, log 40). -/
def State.cp0Write (rd : Reg) (w : DWord) (s : State) : State :=
  match rd.toNat with
  | 0 => s.mapCp0 fun c => { c with index := { c.index with index := w.extractLsb' 0 5 } }
  | 2 => s.mapCp0 fun c => { c with entryLo0 := EntryLo.ofImage w }
  | 3 => s.mapCp0 fun c => { c with entryLo1 := EntryLo.ofImage w }
  | 4 => s.mapCp0 fun c => { c with context := { c.context with pteBase := w.extractLsb' 25 39 } }
  | 5 => s.mapCp0 fun c => { c with pageMask := w.extractLsb' 11 8 }
  | 6 => s.mapCp0 fun c => { c with wired := w.extractLsb' 0 5, random := 31 }
  | 9 =>
    { s.mapCp0 fun c => { c with count := w.extractLsb' 0 32 } with
      timerPending := s.timerPending || (w.extractLsb' 0 32 == s.cp0.compare && s.freeBit .timerOnCountWrite) }
  | 10 =>
    s.mapCp0 fun c =>
      { c with entryHi := { r := w.extractLsb' 62 2, vpn2 := w.extractLsb' 11 29, asid := w.extractLsb' 0 8 } }
  | 11 => { s.mapCp0 fun c => { c with compare := w.extractLsb' 0 32 } with timerPending := false }
  | 12 => s.mapStatus (Status.write w)
  | 13 => s.mapCp0 fun c => { c with cause := { c.cause with ipSw := w.extractLsb' 8 2 } }
  | 14 => s.mapCp0 fun c => { c with epc := w }
  | 16 =>
    s.mapCp0 fun c =>
      { c with config :=
        { c.config with
          ep := w.extractLsb' configLayout.ep 4
          ad := w.getLsbD configLayout.ad
          k0 := w.extractLsb' configLayout.k0 3 } }
  | 17 => s.mapCp0 fun c => { c with llAddr := w.extractLsb' 0 32 }
  | 18 =>
    s.mapCp0 fun c =>
      { c with watchLo := { paddr0 := w.extractLsb' 3 29, r := w.getLsbD 1, w := w.getLsbD 0 } }
  | 20 => s.mapCp0 fun c => { c with xcontext := { c.xcontext with pteBase := w.extractLsb' 35 29 } }
  | 26 => s.mapCp0 fun c => { c with parityErr := w.extractLsb' 0 8 }
  | 28 => s.mapCp0 fun c => { c with tagLo := TagLo.ofImage w }
  | 30 => s.mapCp0 fun c => { c with errorEpc := w }
  | _ => s

end Sys2Proof.Machine
end

