-- ==== Sys2Proof/Machine/Operands.lean ====
section
/-! DEFINITION. The operand forms: immediates (30:R162), effective addresses (40:R200), branch and jump targets (43:R323),
shift amounts (spec 41 section 4), and the byte selection of the unaligned loads and stores (40:R208 to R211, R216 to R219). -/

namespace Sys2Proof.Machine

/-- `sext_16(immediate)` (30:R162). -/
def sextImm (imm : BitVec 16) : DWord := imm.signExtend 64

/-- `zext_16(immediate)` (30:R162). -/
def zextImm (imm : BitVec 16) : DWord := imm.setWidth 64

/-- `sext_32(immediate || 0^16)` (30:R162). -/
def luiImm (imm : BitVec 16) : DWord := sext32 (imm ++ (0 : BitVec 16))

/-- The effective address of a load, a store or CACHE (40:R200). -/
def State.effectiveAddress (base : Reg) (offset : BitVec 16) (s : State) : DWord := s.reg base + sextImm offset

/-- The target of a branch at `pc` (43:R323). -/
def branchTarget (pc : DWord) (offset : BitVec 16) : DWord :=
  pc + 4 + ((offset ++ (0 : BitVec 2)) : BitVec 18).signExtend 64

/-- The target of J and JAL at `pc` (43:R323). -/
def jumpTarget (pc : DWord) (target : BitVec 26) : DWord :=
  (pc + 4).extractLsb' 28 36 ++ target ++ (0 : BitVec 2)

/-- The link value of a jump or branch at `pc` (43:R323). -/
def linkAddress (pc : DWord) : DWord := pc + 8

/-- The shift amount of a variable word shift (41:R258). -/
def shiftAmount5 (v : DWord) : Nat := (v.extractLsb' 0 5).toNat

/-- The shift amount of a variable doubleword shift (41:R264). -/
def shiftAmount6 (v : DWord) : Nat := (v.extractLsb' 0 6).toNat

/-- The bytes an unaligned load or store touches: the first one and how many. -/
structure Part where
  start : DWord
  count : Nat
  deriving DecidableEq, Repr

/-- From the effective address to the end of the aligned datum of `m` bytes. -/
def partToEnd (m : Nat) (va : DWord) : Part where
  start := va
  count := m - va.toNat % m

/-- From the start of the aligned datum of `m` bytes to the effective address. -/
def partFromStart (m : Nat) (va : DWord) : Part where
  start := va - BitVec.ofNat 64 (va.toNat % m)
  count := va.toNat % m + 1

/-- The bytes of the left forms (40:R208, R210, R216, R218). -/
def leftPart (m : Nat) (bigEndian : Bool) (va : DWord) : Part :=
  if bigEndian then partToEnd m va else partFromStart m va

/-- The bytes of the right forms (40:R209, R211, R217, R219). -/
def rightPart (m : Nat) (bigEndian : Bool) (va : DWord) : Part :=
  if bigEndian then partFromStart m va else partToEnd m va

/-- `B` in the top `n` of `m` bytes, the lower bytes kept from the old value (40:R208, R210). -/
def mergeLeft (m n : Nat) (old b : DWord) : DWord :=
  (b <<< (8 * (m - n))) ||| (old &&& BitVec.ofNat 64 (2 ^ (8 * (m - n)) - 1))

/-- `B` in the low `n` bytes, the upper bytes kept from the old value (40:R209, R211). -/
def mergeRight (n : Nat) (old b : DWord) : DWord :=
  ((old >>> (8 * n)) <<< (8 * n)) ||| b

/-- The value of some bytes given in rising address order, in a byte order (20:R110). -/
def assemble (bigEndian : Bool) (bytes : List Byte) : DWord :=
  (if bigEndian then bytes.reverse else bytes).foldr (fun b acc => (acc <<< 8) ||| b.setWidth 64) 0

/-- The low `n` bytes of a value in rising address order, in a byte order (20:R110). -/
def disassemble (bigEndian : Bool) (n : Nat) (v : DWord) : List Byte :=
  let bytes := (List.range n).map fun i => v.extractLsb' (8 * i) 8
  if bigEndian then bytes.reverse else bytes

end Sys2Proof.Machine
end

