-- ==== Sys2Proof/Machine/Access.lean ====
section
/-! DEFINITION. What the parts of an instruction can answer: a value and the state so far, or one of the ways the
instruction ends early. -/

namespace Sys2Proof.Machine

/-- What an access is made for (20:R115). -/
inductive AccessKind where
  | fetch
  | load
  | store
  deriving DecidableEq, Repr

/-- The exceptions an instruction can raise, and the interrupt (00:R12); resets and NMI are taken by the step. -/
inductive Exc where
  | int
  /-- TLB change (60:R418) -/
  | tlbMod (va : DWord)
  /-- TLB unmatched (60:R416) -/
  | tlbRefill (va : DWord) (kind : AccessKind)
  /-- TLB invalid (60:R417) -/
  | tlbInvalid (va : DWord) (kind : AccessKind)
  /-- address error (60:R415) -/
  | addressError (va : DWord) (kind : AccessKind)
  /-- bus error, instruction (60:R419) -/
  | ibe
  /-- bus error, data (60:R419) -/
  | dbe
  | sys
  | bp
  | ri
  | cpU (coprocessor : BitVec 2)
  | ov
  | tr
  | watch
  /-- cache error (60:R414) -/
  | cacheError
  deriving DecidableEq, Repr

/-- The result of a part of an instruction. -/
inductive Access (α : Type) where
  /-- it completed with this value -/
  | ok (a : α) (s : State)
  /-- it raised an exception; the state holds the effects the spec lets an aborted access have on caches and memory -/
  | raise (e : Exc) (s : State)
  /-- two TLB entries matched (10:R72) -/
  | shutdown (s : State)
  /-- the external agent never answers the read (20:R154) -/
  | hang (s : State)
  | refuse (r : Refusal)
  | fault (f : Fault)

/-- Goes on with the value of a part that completed. -/
def Access.andThen {α β : Type} (m : Access α) (k : α → State → Access β) : Access β :=
  match m with
  | .ok a s => k a s
  | .raise e s => .raise e s
  | .shutdown s => .shutdown s
  | .hang s => .hang s
  | .refuse r => .refuse r
  | .fault f => .fault f

end Sys2Proof.Machine
end

