-- ==== Sys2Proof/Machine/Ops.lean ====
section
/-! DEFINITION. The operations every instruction shares: advancing (10:R25), the HI/LO hazard (70:R470), taking an exception
(60:R405 to R407, R414), the return from one (45:R369), resets and NMI (60:R411 to R413), and the checks that come before an
instruction's own effect (45:R360, 30:R172, 43:R322). -/

namespace Sys2Proof.Machine

/-- Random after one more instruction (10:R33). -/
def nextRandom (random wired : BitVec 5) : BitVec 5 :=
  if random.toNat ≤ wired.toNat then 31 else random - 1

/-- Random decremented once. -/
def State.decrementRandom (s : State) : State :=
  s.mapCp0 fun c => { c with random := nextRandom c.random c.wired }

/-- Random decremented once more if a condition holds. -/
def State.decrementRandomIf (b : Bool) (s : State) : State :=
  s.mapCp0 fun c => { c with random := if b then nextRandom c.random c.wired else c.random }

/-- The hazard window after an instruction that neither reads nor writes HI or LO. -/
def HiLoWindow.age (w : HiLoWindow) : HiLoWindow := { last := [], beforeLast := w.last, spoiled := [] }

/-- The hazard window after an instruction that reads HI or LO into a register. -/
def HiLoWindow.afterRead (rd : Reg) (w : HiLoWindow) : HiLoWindow :=
  { last := [rd], beforeLast := w.last, spoiled := [] }

/-- The hazard window after an instruction that writes HI or LO. -/
def HiLoWindow.afterWrite (w : HiLoWindow) : HiLoWindow := { last := [], beforeLast := w.last, spoiled := w.last }

/-- What every instruction that completes does besides its own effect: the pc moves (10:R25), Random is decremented
(10:R33), the hazard window ages (70:R470), the multiplier advances (42:R295). -/
def State.retire (pc npc : DWord) (ds : Bool) (s : State) : State :=
  { s.decrementRandom with
    pc := pc, npc := npc, ds := ds, hiLo := s.hiLo.age, hiLoPrev := s.hiLo, mdBusy := s.mdBusy - 1, trapped := false }

/-- Completion of an instruction that is no jump or branch (10:R25). -/
def State.advance (s : State) : State := s.retire s.npc (s.npc + 4) false

/-- Completion of a jump or of a taken branch (10:R25). -/
def State.branchTo (target : DWord) (s : State) : State := s.retire s.npc target true

/-- Completion of an untaken branch (10:R25). -/
def State.branchNotTaken (s : State) : State := s.retire s.npc (s.npc + 4) true

/-- Completion of an untaken branch-likely: the delay slot is nullified (43:R321). Whether it counts for Random is open
(log 15). -/
def State.nullifySlot (s : State) : State :=
  (s.retire (s.npc + 4) (s.npc + 8) false).decrementRandomIf (s.freeBit .randomOnNullify)

/-- The instruction writes a general register and completes. -/
def State.writeReg (r : Reg) (v : DWord) (s : State) : State := s.advance.setReg r v

/-- Registers lose their values, each by an open value of its own. -/
def State.forget (rs : List Reg) (kind : Reg → OpenValue) (s : State) : State :=
  rs.foldl (fun t r => t.setReg r (s.freeWord (kind r))) s

/-- The registers that a write of HI or LO leaves open: those the last two instructions read HI or LO into (70:R470). -/
def State.hazardRegs (s : State) : List Reg := s.hiLo.last ++ s.hiLo.beforeLast

/-- What a write of HI or LO does to the registers read from them by the two instructions before it (70:R470, log 19). -/
def State.hiLoHazard (s : State) : State := s.forget s.hazardRegs .hazard

/-- The instruction writes HI and LO and completes: a running operation is waited for, and the unit is then busy for the
cycles of Table 3-6, none for MTHI and MTLO (42:R295). -/
def State.writeHiLo (hi lo : DWord) (cycles : Nat) (s : State) : State :=
  { s.advance with hi := hi, lo := lo, hiLo := s.hiLo.afterWrite, mdBusy := cycles }

/-- MFHI or MFLO completes: the unit is waited for (42:R295) and the hazard window opens (70:R470). -/
def State.readHiLo (rd : Reg) (v : DWord) (s : State) : State :=
  { s.writeReg rd v with hiLo := s.hiLo.afterRead rd, mdBusy := 0 }

/-- The address a restart goes to: the branch, for an instruction in a delay slot (60:R408). -/
def State.restartAddress (s : State) : DWord := if s.ds then s.pc - 4 else s.pc

/-- The hazard window at the restart address: in a delay slot, that of the branch (log 19). -/
def State.restartWindow (s : State) : HiLoWindow := if s.ds then s.hiLoPrev else s.hiLo

/-- The interrupted programs with the present one added (42:R296, log 19). -/
def State.saveWindow (s : State) : List SavedWindow :=
  { addr := s.restartAddress, gpr := s.gpr, window := s.restartWindow, resumed := false } :: s.hiLoSaved

/-- The interrupted programs that wait for a return, the last one first. -/
def State.waiting (s : State) : List SavedWindow := s.hiLoSaved.filter fun w => !w.resumed

/-- The program was interrupted at an address or one instruction before it, which a handler may skip (44:R330). -/
def SavedWindow.near (a : DWord) (w : SavedWindow) : Bool := w.addr == a || w.addr == a - 4

/-- How many general registers differ from those the program had; all count alike, as no alias has a hardware meaning (30:R181). -/
def SavedWindow.differing (s : State) (w : SavedWindow) : Nat :=
  (List.finRange 32).countP fun i => w.gpr[i] ≠ s.gpr[i]

/-- At most four registers differ: as many as a handler is taken to change in a program it resumes (DESIGN CHOICE, log 19). -/
def SavedWindow.alike (s : State) (w : SavedWindow) : Bool := w.differing s ≤ 4

/-- Two programs wait at one address with one window: which of them goes on makes no difference to the hazard. -/
def SavedWindow.agrees (w x : SavedWindow) : Bool := x.addr == w.addr && x.window == w.window

/-- A return to an address goes on with this program for certain: it was interrupted there, it is the last one interrupted or has
about the present registers, and no other one that waits could be meant: each of these agrees with it, or waits elsewhere while this
one is the last, or has registers that differ in more places and is not the last one interrupted there (DESIGN CHOICE, log 19). -/
def State.surelyResumes (a : DWord) (s : State) (w : SavedWindow) : Bool :=
  let last (x : SavedWindow) := s.waiting.head? == some x
  w.near a && (last w || w.alike s)
    && s.waiting.all fun x =>
      w.agrees x || (last w && !x.near a) || (decide (w.differing s < x.differing s) && !(last x && x.near a))

/-- The interrupted program that a return to an address goes on with, if that is certain. -/
def State.returnProgram (a : DWord) (s : State) : Option SavedWindow := s.waiting.find? (s.surelyResumes a)

/-- The interrupted programs that a return to an address may go on with, if that is not certain: any that waits, as a handler may
send a program on at another address, and any that was interrupted there and has gone on once, as a handler may make two of one. -/
def State.returnCandidates (a : DWord) (s : State) : List SavedWindow :=
  s.hiLoSaved.filter fun w => !w.resumed || w.near a

/-- The registers of several windows, as far as a condition holds. -/
def HiLoWindow.gather (p : Reg → Bool) (ws : List HiLoWindow) : HiLoWindow where
  last := (ws.flatMap (·.last)).filter p
  beforeLast := (ws.flatMap (·.beforeLast)).filter p
  spoiled := (ws.flatMap (·.spoiled)).filter p

/-- The saved window that a return to an address resumes, with the instruction at the saved address skipped or not. It is that of
the program it goes on with; if that is not certain, each register of the programs that may be meant is in it by an open choice, so
that no restriction is lifted for certain and none is added for certain (42:R296, log 19). -/
def State.returnWindow (skipped : Bool) (a : DWord) (s : State) : HiLoWindow :=
  match s.returnProgram a with
  | some w => if skipped = (w.addr == a - 4) then w.window else HiLoWindow.empty
  | none => .gather (fun r => s.freeBit (.resumes skipped r)) ((s.returnCandidates a).map (·.window))

/-- The hazard window behind a return to an address: the saved one, older by an instruction if a handler has executed one for the
program, and that of the handler, which the return has made an instruction older (70:R470; log 19). -/
def State.windowAt (a : DWord) (s : State) : HiLoWindow :=
  let w := s.returnWindow false a
  let skipped := (s.returnWindow true a).age
  { w with beforeLast := w.beforeLast ++ skipped.beforeLast ++ s.hiLo.last }

/-- The interrupted programs after a return to an address: the one it goes on with is taken off, or marked if a handler has changed
many of its registers or skipped an instruction, as it may then make two programs of one (log 19). -/
def State.windowsAfter (a : DWord) (s : State) : List SavedWindow :=
  match s.returnProgram a with
  | some w =>
    if w.addr = a ∧ w.alike s = true then s.hiLoSaved.erase w else s.hiLoSaved.replace w { w with resumed := true }
  | none => s.hiLoSaved

/-- What follows an instruction that completes: the second instruction behind an MFHI or MFLO leaves the register that one was
given unspecified if the first one wrote HI or LO (70:R470). -/
def State.settleHazard (s : State) (o : Host.Outcome State Fault Refusal) : Host.Outcome State Fault Refusal :=
  match o with
  | .next t => if t.trapped then .next t else .next (t.forget s.hiLo.spoiled .hazardAfter)
  | .fault f => .fault f
  | .refused r => .refused r

/-- Cause.ExcCode of an exception (60:R400, 10:R47). -/
def Exc.code : Exc → BitVec 5
  | .int => 0
  | .tlbMod _ => 1
  | .tlbRefill _ .store => 3
  | .tlbRefill _ _ => 2
  | .tlbInvalid _ .store => 3
  | .tlbInvalid _ _ => 2
  | .addressError _ .store => 5
  | .addressError _ _ => 4
  | .ibe => 6
  | .dbe => 7
  | .sys => 8
  | .bp => 9
  | .ri => 10
  | .cpU _ => 11
  | .ov => 12
  | .tr => 13
  | .watch => 23
  | .cacheError => 0

/-- Whether the address space of `va` has its 64-bit bit set (60:R406). -/
def State.xtlb (va : DWord) (s : State) : Bool :=
  if va.extractLsb' 62 2 = 0 then s.cp0.status.ux
  else if va.extractLsb' 62 2 = 1 ∨ (0xFFFFFFFFC0000000 ≤ va ∧ va ≤ 0xFFFFFFFFDFFFFFFF) then s.cp0.status.sx
  else s.cp0.status.kx

/-- The vector offset of an exception (60:R404, R406). -/
def State.vectorOffset (e : Exc) (s : State) : DWord :=
  if s.cp0.status.exl then 0x180
  else match e with
    | .tlbRefill va _ => if s.xtlb va then 0x080 else 0x000
    | _ => 0x180

/-- The vector base (60:R404). -/
def State.vectorBase (s : State) : DWord :=
  if s.cp0.status.bev then 0xFFFFFFFFBFC00200 else 0xFFFFFFFF80000000

/-- The registers a TLB exception records (60:R407). -/
def Cp0.recordTlb (va : DWord) (c : Cp0) : Cp0 :=
  { c with
    badVAddr := va
    context := { c.context with badVpn2 := va.extractLsb' 11 21 }
    xcontext := { c.xcontext with r := va.extractLsb' 62 2, badVpn2 := va.extractLsb' 11 29 }
    entryHi := { c.entryHi with r := va.extractLsb' 62 2, vpn2 := va.extractLsb' 11 29 } }

/-- The registers an address error records; the fields of Context, XContext and EntryHi are open (60:R415, log 24). -/
def State.recordAddressError (va : DWord) (s : State) : State :=
  s.mapCp0 fun c =>
    { c with
      badVAddr := va
      context := { c.context with badVpn2 := s.freeBits .contextBadVpn2 21 }
      xcontext := { c.xcontext with r := s.freeBits .xcontextR 2, badVpn2 := s.freeBits .xcontextBadVpn2 29 }
      entryHi := { c.entryHi with r := s.freeBits .entryHiR 2, vpn2 := s.freeBits .entryHiVpn2 29 } }

/-- What an exception records besides the common entry (60:R400, R407, R415). -/
def State.recordException (e : Exc) (s : State) : State :=
  match e with
  | .tlbMod va => s.mapCp0 (Cp0.recordTlb va)
  | .tlbRefill va _ => s.mapCp0 (Cp0.recordTlb va)
  | .tlbInvalid va _ => s.mapCp0 (Cp0.recordTlb va)
  | .addressError va _ => s.recordAddressError va
  | _ => s

/-- Cause.CE after an exception: the coprocessor for CpU, open otherwise (10:R46, 60:R405; U20, log 23). -/
def State.causeCe (e : Exc) (s : State) : BitVec 2 :=
  match e with
  | .cpU n => n
  | _ => s.freeBits .causeCE 2

/-- Random after an instruction that ends in an exception: whether it counts is open (10:R33, D4, log 15). -/
def State.randomOnException (s : State) : State :=
  s.decrementRandomIf (s.freeBit .randomOnException)

/-- Execution goes to a handler: an immediate transfer, no delay slot (10:R25). -/
def State.jumpToHandler (vector : DWord) (s : State) : State :=
  { s with
    pc := vector, npc := vector + 4, ds := false, hiLo := HiLoWindow.empty, hiLoPrev := HiLoWindow.empty, trapped := true }

/-- The common entry (60:R405), for every exception but cache error. -/
def State.enterCommon (e : Exc) (s : State) : State :=
  let exl := s.cp0.status.exl
  let t := (s.recordException e).randomOnException.mapCp0 fun c =>
    { c with
      epc := if exl then c.epc else s.restartAddress
      cause := { c.cause with
        bd := if exl then c.cause.bd else s.ds
        excCode := e.code
        ce := s.causeCe e }
      status := { c.status with exl := true } }
  { t.jumpToHandler (s.vectorBase + s.vectorOffset e) with
    hiLoSaved := if exl then s.hiLoSaved else s.saveWindow }

/-- The entry of a cache error (60:R414): ErrorEPC and ERL, Cause and EPC untouched; CacheErr is open (log 25). -/
def State.enterCacheError (s : State) : State :=
  let t := s.randomOnException.mapCp0 fun c =>
    { c with
      errorEpc := s.restartAddress
      cacheErr := s.freeBits .cacheErr 32
      status := { c.status with erl := true } }
  { t.jumpToHandler (if s.cp0.status.bev then 0xFFFFFFFFBFC00300 else 0xFFFFFFFFA0000100) with
    hiLoSaved := s.saveWindow }

/-- Taking an exception: the one operation every raise goes through (60:R405, R414). -/
def State.takeException (e : Exc) (s : State) : State :=
  match e with
  | .cacheError => s.enterCacheError
  | _ => s.enterCommon e

/-- An immediate transfer to an address that resumes the hazard window of an interrupted program (42:R296): a register whose
window ended with a skipped instruction loses its value now (70:R470). -/
def State.returnTo (a : DWord) (s : State) : State :=
  { s.retire a (a + 4) false with
    gpr := (s.forget (s.returnWindow true a).spoiled .hazardAfter).gpr
    hiLo := s.windowAt a
    hiLoSaved := s.windowsAfter a }

/-- The return from an exception (45:R369): ErrorEPC and ERL if ERL = 1, else EPC and EXL; an immediate transfer. That ERET alone
resumes the hazard window of an interrupted program, and MTC0 to Status with a jump does not, is a DESIGN CHOICE (log 19):
42:R296 does not say what counts as the return. -/
def State.returnFromException (s : State) : State :=
  if s.cp0.status.erl then (s.returnTo s.cp0.errorEpc).mapStatus fun st => { st with erl := false }
  else (s.returnTo s.cp0.epc).mapStatus fun st => { st with exl := false }

/-- The processor hangs in a read that is never answered (20:R154, log 54). -/
def State.hangUp (s : State) : State := { s with hung := true, trapped := true }

/-- TLB shutdown: Status.TS is set and nothing else happens; the machine is stuck until a cold or soft reset (10:R72, U4;
log 28). -/
def State.tlbShutdown (s : State) : State := (s.mapStatus fun st => { st with ts := true }).hangUp

/-- The outcome of an instruction (60:R401, R402): its completion, or the exception it raised. -/
def Access.finish (m : Access Unit) : Host.Outcome State Fault Refusal :=
  match m with
  | .ok _ s => .next s
  | .raise e s => .next (s.takeException e)
  | .shutdown s => .next s.tlbShutdown
  | .hang s => .next s.hangUp
  | .refuse r => .refused r
  | .fault f => .fault f

/-- The instruction raises an exception in this state. -/
def State.raise (e : Exc) (s : State) : Host.Outcome State Fault Refusal := .next (s.takeException e)

/-- Runs a 64-bit instruction, or raises RI (30:R172, 60:R432). -/
def State.requires64 (s : State) (k : Host.Outcome State Fault Refusal) : Host.Outcome State Fault Refusal :=
  if s.is64bitOps then k
  else if s.mode = .undefined then .refused .undefinedMode
  else s.raise .ri

/-- Runs a CP0 instruction, or raises CpU(0) (45:R360). -/
def State.requiresCp0 (s : State) (k : Host.Outcome State Fault Refusal) : Host.Outcome State Fault Refusal :=
  if s.cp0Usable then k else s.raise (.cpU 0)

/-- Runs a jump, a branch or ERET, which must not stand in a delay slot (43:R322, U14, log 29). -/
def State.outsideSlot (s : State) (k : Host.Outcome State Fault Refusal) : Host.Outcome State Fault Refusal :=
  if s.ds then .refused .branchInDelaySlot else k

/-- Goes on to a state whose Status must name an operating mode (60:R430, U17, log 30). -/
def State.inDefinedMode (s : State) : Host.Outcome State Fault Refusal :=
  if s.mode = .undefined then .refused .undefinedMode else .next s

/-- HI and LO if a multiply or divide was running when a reset or NMI came (60:R412, R413; U21, log 26). -/
def State.abortMultiply (s : State) : State :=
  if s.mdBusy = 0 then s
  else { s with hi := s.freeWord .hiOnReset, lo := s.freeWord .loOnReset, mdBusy := 0 }

/-- The reset vector (60:R404). -/
def resetVector : DWord := 0xFFFFFFFFBFC00000

/-- What soft reset and NMI share (60:R412, R413, 10:R80). -/
def State.warmReset (s : State) : State :=
  let t := s.abortMultiply.mapCp0 fun c =>
    { c with
      errorEpc := s.restartAddress
      status := { c.status with ts := false, sr := true, bev := true, erl := true } }
  { t.jumpToHandler resetVector with powerMode := .fullspeed, hiLoSaved := s.saveWindow }

/-- Soft reset (60:R412); it also ends a hang (log 54) and TLB shutdown (U4). -/
def State.takeSoftReset (s : State) : State := { s.warmReset with softReset := false, hung := false }

/-- NMI (60:R413). -/
def State.takeNmi (s : State) : State := { s.warmReset with nmiPending := false }

/-- Cold reset (60:R411): everything of the CPU to its reset value, the mode pins taken (00:R5), ErrorEPC to the interrupted
address; the pins, the external agent and the model's counter stay (log 43). -/
def State.takeColdReset (s : State) : State :=
  { State.reset with
    cp0 := { Cp0.reset s.pins with errorEpc := s.restartAddress }
    intPins := s.intPins
    pins := s.pins
    busParityOff := s.pins.hizParity
    mem := s.mem
    busErrors := s.busErrors
    badParity := s.badParity
    noResponse := s.noResponse
    unchecked := s.unchecked
    inputs := s.inputs
    freeCount := s.freeCount }

end Sys2Proof.Machine
end

