-- ==== Sys2Proof/Machine/Branch.lean ====
section
/-! DEFINITION. Jumps, branches and branch-likely forms (spec 43). -/

namespace Sys2Proof.Machine

/-- A jump: the transfer takes place after the delay slot (43:R300). -/
def State.jump (target : DWord) (s : State) : Host.Outcome State Fault Refusal :=
  s.outsideSlot (.next (s.branchTo target))

/-- A jump that writes a link register (43:R302, R304); the target was read before. -/
def State.jumpAndLink (r : Reg) (target : DWord) (s : State) : Host.Outcome State Fault Refusal :=
  s.outsideSlot (.next ((s.branchTo target).setReg r (linkAddress s.pc)))

/-- Where a conditional branch leaves the machine (10:R25). -/
def State.branchState (taken : Bool) (offset : BitVec 16) (s : State) : State :=
  if taken then s.branchTo (branchTarget s.pc offset) else s.branchNotTaken

/-- Where a branch-likely leaves the machine (43:R321). -/
def State.branchLikelyState (taken : Bool) (offset : BitVec 16) (s : State) : State :=
  if taken then s.branchTo (branchTarget s.pc offset) else s.nullifySlot

/-- A conditional branch (43:R300). -/
def State.branch (taken : Bool) (offset : BitVec 16) (s : State) : Host.Outcome State Fault Refusal :=
  s.outsideSlot (.next (s.branchState taken offset))

/-- A conditional branch that writes r31, taken or not (43:R311). -/
def State.branchAndLink (taken : Bool) (offset : BitVec 16) (s : State) : Host.Outcome State Fault Refusal :=
  s.outsideSlot (.next ((s.branchState taken offset).setReg 31 (linkAddress s.pc)))

/-- A branch-likely (43:R321). -/
def State.branchLikely (taken : Bool) (offset : BitVec 16) (s : State) : Host.Outcome State Fault Refusal :=
  s.outsideSlot (.next (s.branchLikelyState taken offset))

/-- A branch-likely that writes r31, taken or not (43:R319, R321). -/
def State.branchLikelyAndLink (taken : Bool) (offset : BitVec 16) (s : State) : Host.Outcome State Fault Refusal :=
  s.outsideSlot (.next ((s.branchLikelyState taken offset).setReg 31 (linkAddress s.pc)))

/-- J (43:R301). -/
def execJ (target : BitVec 26) (s : State) : Host.Outcome State Fault Refusal := s.jump (jumpTarget s.pc target)

/-- JAL (43:R302). -/
def execJal (target : BitVec 26) (s : State) : Host.Outcome State Fault Refusal :=
  s.jumpAndLink 31 (jumpTarget s.pc target)

/-- JR (43:R303). -/
def execJr (rs : Reg) (s : State) : Host.Outcome State Fault Refusal := s.jump (s.reg rs)

/-- JALR (43:R304). -/
def execJalr (rs rd : Reg) (s : State) : Host.Outcome State Fault Refusal := s.jumpAndLink rd (s.reg rs)

/-- BEQ (43:R305). -/
def execBeq (rs rt : Reg) (offset : BitVec 16) (s : State) : Host.Outcome State Fault Refusal :=
  s.branch (s.reg rs == s.reg rt) offset

/-- BNE (43:R306). -/
def execBne (rs rt : Reg) (offset : BitVec 16) (s : State) : Host.Outcome State Fault Refusal :=
  s.branch (s.reg rs != s.reg rt) offset

/-- BLEZ (43:R307). -/
def execBlez (rs : Reg) (offset : BitVec 16) (s : State) : Host.Outcome State Fault Refusal :=
  s.branch ((s.reg rs).sle 0) offset

/-- BGTZ (43:R308). -/
def execBgtz (rs : Reg) (offset : BitVec 16) (s : State) : Host.Outcome State Fault Refusal :=
  s.branch ((0 : DWord).slt (s.reg rs)) offset

/-- BLTZ (43:R309). -/
def execBltz (rs : Reg) (offset : BitVec 16) (s : State) : Host.Outcome State Fault Refusal :=
  s.branch ((s.reg rs).getLsbD 63) offset

/-- BGEZ (43:R310). -/
def execBgez (rs : Reg) (offset : BitVec 16) (s : State) : Host.Outcome State Fault Refusal :=
  s.branch (!(s.reg rs).getLsbD 63) offset

/-- BLTZAL (43:R311). -/
def execBltzal (rs : Reg) (offset : BitVec 16) (s : State) : Host.Outcome State Fault Refusal :=
  s.branchAndLink ((s.reg rs).getLsbD 63) offset

/-- BGEZAL (43:R312). -/
def execBgezal (rs : Reg) (offset : BitVec 16) (s : State) : Host.Outcome State Fault Refusal :=
  s.branchAndLink (!(s.reg rs).getLsbD 63) offset

/-- BEQL (43:R313). -/
def execBeql (rs rt : Reg) (offset : BitVec 16) (s : State) : Host.Outcome State Fault Refusal :=
  s.branchLikely (s.reg rs == s.reg rt) offset

/-- BNEL (43:R314). -/
def execBnel (rs rt : Reg) (offset : BitVec 16) (s : State) : Host.Outcome State Fault Refusal :=
  s.branchLikely (s.reg rs != s.reg rt) offset

/-- BLEZL (43:R315). -/
def execBlezl (rs : Reg) (offset : BitVec 16) (s : State) : Host.Outcome State Fault Refusal :=
  s.branchLikely ((s.reg rs).sle 0) offset

/-- BGTZL (43:R316). -/
def execBgtzl (rs : Reg) (offset : BitVec 16) (s : State) : Host.Outcome State Fault Refusal :=
  s.branchLikely ((0 : DWord).slt (s.reg rs)) offset

/-- BLTZL (43:R317). -/
def execBltzl (rs : Reg) (offset : BitVec 16) (s : State) : Host.Outcome State Fault Refusal :=
  s.branchLikely ((s.reg rs).getLsbD 63) offset

/-- BGEZL (43:R318). -/
def execBgezl (rs : Reg) (offset : BitVec 16) (s : State) : Host.Outcome State Fault Refusal :=
  s.branchLikely (!(s.reg rs).getLsbD 63) offset

/-- BLTZALL (43:R319). -/
def execBltzall (rs : Reg) (offset : BitVec 16) (s : State) : Host.Outcome State Fault Refusal :=
  s.branchLikelyAndLink ((s.reg rs).getLsbD 63) offset

/-- BGEZALL (43:R320). -/
def execBgezall (rs : Reg) (offset : BitVec 16) (s : State) : Host.Outcome State Fault Refusal :=
  s.branchLikelyAndLink (!(s.reg rs).getLsbD 63) offset

end Sys2Proof.Machine
end

