-- ==== Sys2Proof/Decode.lean ====
section
/-! DEFINITION. The decoder, total on any word and on any four bytes, and the encoder, both from the encoding tables of
spec 30 (R160 to R173) and the rows of spec/opcode_table.json. -/

namespace Sys2Proof

/-- Why a word is no instruction. -/
inductive DecodeError where
  /-- the encoding is reserved and raises the reserved instruction exception (30:R170) -/
  | reserved
  /-- COP0 with an unlisted rs or CO function: no meaning once CP0 is usable (30:R167) -/
  | undefinedCop0
  /-- CACHE with an operation code outside the thirteen of Table 3-12 (30:R169) -/
  | undefinedCacheOp
  /-- an instruction with a non-zero bit in a must-be-zero field (30:R171) -/
  | nonZeroField
  deriving DecidableEq, Repr

/-- An instruction whose must-be-zero fields are zero (30:R171). -/
def zeroField (isZero : Bool) (i : Instr) : Except DecodeError Instr :=
  if isZero then .ok i else .error .nonZeroField

/-- The SPECIAL table, by funct (30:R165). -/
def decodeSpecial (rs rt rd : Reg) (sa : BitVec 5) (funct : BitVec 6) : Except DecodeError Instr :=
  match funct.toNat with
  | 0x00 => zeroField (rs == 0) (.sll rt rd sa)
  | 0x02 => zeroField (rs == 0) (.srl rt rd sa)
  | 0x03 => zeroField (rs == 0) (.sra rt rd sa)
  | 0x04 => zeroField (sa == 0) (.sllv rs rt rd)
  | 0x06 => zeroField (sa == 0) (.srlv rs rt rd)
  | 0x07 => zeroField (sa == 0) (.srav rs rt rd)
  | 0x08 => zeroField (rt == 0 && rd == 0 && sa == 0) (.jr rs)
  | 0x09 => zeroField (rt == 0 && sa == 0) (.jalr rs rd)
  | 0x0C => .ok (.syscall (rs ++ rt ++ rd ++ sa))
  | 0x0D => .ok (.brk (rs ++ rt ++ rd ++ sa))
  | 0x0F => zeroField (rs == 0 && rt == 0 && rd == 0 && sa == 0) .sync
  | 0x10 => zeroField (rs == 0 && rt == 0 && sa == 0) (.mfhi rd)
  | 0x11 => zeroField (rt == 0 && rd == 0 && sa == 0) (.mthi rs)
  | 0x12 => zeroField (rs == 0 && rt == 0 && sa == 0) (.mflo rd)
  | 0x13 => zeroField (rt == 0 && rd == 0 && sa == 0) (.mtlo rs)
  | 0x14 => zeroField (sa == 0) (.dsllv rs rt rd)
  | 0x16 => zeroField (sa == 0) (.dsrlv rs rt rd)
  | 0x17 => zeroField (sa == 0) (.dsrav rs rt rd)
  | 0x18 => zeroField (rd == 0 && sa == 0) (.mult rs rt)
  | 0x19 => zeroField (rd == 0 && sa == 0) (.multu rs rt)
  | 0x1A => zeroField (rd == 0 && sa == 0) (.div rs rt)
  | 0x1B => zeroField (rd == 0 && sa == 0) (.divu rs rt)
  | 0x1C => zeroField (rd == 0 && sa == 0) (.dmult rs rt)
  | 0x1D => zeroField (rd == 0 && sa == 0) (.dmultu rs rt)
  | 0x1E => zeroField (rd == 0 && sa == 0) (.ddiv rs rt)
  | 0x1F => zeroField (rd == 0 && sa == 0) (.ddivu rs rt)
  | 0x20 => zeroField (sa == 0) (.add rs rt rd)
  | 0x21 => zeroField (sa == 0) (.addu rs rt rd)
  | 0x22 => zeroField (sa == 0) (.sub rs rt rd)
  | 0x23 => zeroField (sa == 0) (.subu rs rt rd)
  | 0x24 => zeroField (sa == 0) (.and rs rt rd)
  | 0x25 => zeroField (sa == 0) (.or rs rt rd)
  | 0x26 => zeroField (sa == 0) (.xor rs rt rd)
  | 0x27 => zeroField (sa == 0) (.nor rs rt rd)
  | 0x28 => zeroField (rd == 0 && sa == 0) (.madd16 rs rt)
  | 0x29 => zeroField (rd == 0 && sa == 0) (.dmadd16 rs rt)
  | 0x2A => zeroField (sa == 0) (.slt rs rt rd)
  | 0x2B => zeroField (sa == 0) (.sltu rs rt rd)
  | 0x2C => zeroField (sa == 0) (.dadd rs rt rd)
  | 0x2D => zeroField (sa == 0) (.daddu rs rt rd)
  | 0x2E => zeroField (sa == 0) (.dsub rs rt rd)
  | 0x2F => zeroField (sa == 0) (.dsubu rs rt rd)
  | 0x30 => .ok (.tge rs rt (rd ++ sa))
  | 0x31 => .ok (.tgeu rs rt (rd ++ sa))
  | 0x32 => .ok (.tlt rs rt (rd ++ sa))
  | 0x33 => .ok (.tltu rs rt (rd ++ sa))
  | 0x34 => .ok (.teq rs rt (rd ++ sa))
  | 0x36 => .ok (.tne rs rt (rd ++ sa))
  | 0x38 => zeroField (rs == 0) (.dsll rt rd sa)
  | 0x3A => zeroField (rs == 0) (.dsrl rt rd sa)
  | 0x3B => zeroField (rs == 0) (.dsra rt rd sa)
  | 0x3C => zeroField (rs == 0) (.dsll32 rt rd sa)
  | 0x3E => zeroField (rs == 0) (.dsrl32 rt rd sa)
  | 0x3F => zeroField (rs == 0) (.dsra32 rt rd sa)
  | _ => .error .reserved

/-- The REGIMM table, by the rt field (30:R166). -/
def decodeRegimm (rs rt : Reg) (imm : BitVec 16) : Except DecodeError Instr :=
  match rt.toNat with
  | 0x00 => .ok (.bltz rs imm)
  | 0x01 => .ok (.bgez rs imm)
  | 0x02 => .ok (.bltzl rs imm)
  | 0x03 => .ok (.bgezl rs imm)
  | 0x08 => .ok (.tgei rs imm)
  | 0x09 => .ok (.tgeiu rs imm)
  | 0x0A => .ok (.tlti rs imm)
  | 0x0B => .ok (.tltiu rs imm)
  | 0x0C => .ok (.teqi rs imm)
  | 0x0E => .ok (.tnei rs imm)
  | 0x10 => .ok (.bltzal rs imm)
  | 0x11 => .ok (.bgezal rs imm)
  | 0x12 => .ok (.bltzall rs imm)
  | 0x13 => .ok (.bgezall rs imm)
  | _ => .error .reserved

/-- The CO functions of COP0 (30:R167). -/
def decodeCo (funct : BitVec 6) : Except DecodeError Instr :=
  match funct.toNat with
  | 0x01 => .ok .tlbr
  | 0x02 => .ok .tlbwi
  | 0x06 => .ok .tlbwr
  | 0x08 => .ok .tlbp
  | 0x18 => .ok .eret
  | 0x21 => .ok .standby
  | 0x22 => .ok .suspend
  | 0x23 => .ok .hibernate
  | _ => .error .undefinedCop0

/-- COP0, by the rs field: a CP0 move, or with bit 25 set a CO function whose bits 24..6 are zero (30:R167). -/
def decodeCop0 (rs rt rd : Reg) (sa : BitVec 5) (funct : BitVec 6) : Except DecodeError Instr :=
  match rs.toNat with
  | 0x00 => zeroField (sa == 0 && funct == 0) (.mfc0 rt rd)
  | 0x01 => zeroField (sa == 0 && funct == 0) (.dmfc0 rt rd)
  | 0x04 => zeroField (sa == 0 && funct == 0) (.mtc0 rt rd)
  | 0x05 => zeroField (sa == 0 && funct == 0) (.dmtc0 rt rd)
  | 0x10 => (decodeCo funct).bind (zeroField (rt == 0 && rd == 0 && sa == 0))
  | _ =>
    if rs.getLsbD 4 then (decodeCo funct).bind (zeroField false) else .error .undefinedCop0

/-- The CACHE operations, by the rt field (30:R169). -/
def decodeCache (rs rt : Reg) (imm : BitVec 16) : Except DecodeError Instr :=
  match rt.toNat with
  | 0x00 => .ok (.cacheIndexInvalidateI rs imm)
  | 0x01 => .ok (.cacheIndexWriteBackInvalidateD rs imm)
  | 0x04 => .ok (.cacheIndexLoadTagI rs imm)
  | 0x05 => .ok (.cacheIndexLoadTagD rs imm)
  | 0x08 => .ok (.cacheIndexStoreTagI rs imm)
  | 0x09 => .ok (.cacheIndexStoreTagD rs imm)
  | 0x0D => .ok (.cacheCreateDirtyD rs imm)
  | 0x10 => .ok (.cacheHitInvalidateI rs imm)
  | 0x11 => .ok (.cacheHitInvalidateD rs imm)
  | 0x14 => .ok (.cacheFillI rs imm)
  | 0x15 => .ok (.cacheHitWriteBackInvalidateD rs imm)
  | 0x18 => .ok (.cacheHitWriteBackI rs imm)
  | 0x19 => .ok (.cacheHitWriteBackD rs imm)
  | _ => .error .undefinedCacheOp

/-- The fields of an instruction word by its major opcode (30:R163, R164). -/
def decodeFields (op : BitVec 6) (rs rt : Reg) (imm : BitVec 16) : Except DecodeError Instr :=
  let rd := imm.extractLsb' 11 5
  let sa := imm.extractLsb' 6 5
  let funct := imm.extractLsb' 0 6
  match op.toNat with
  | 0x00 => decodeSpecial rs rt rd sa funct
  | 0x01 => decodeRegimm rs rt imm
  | 0x02 => .ok (.j (rs ++ rt ++ imm))
  | 0x03 => .ok (.jal (rs ++ rt ++ imm))
  | 0x04 => .ok (.beq rs rt imm)
  | 0x05 => .ok (.bne rs rt imm)
  | 0x06 => zeroField (rt == 0) (.blez rs imm)
  | 0x07 => zeroField (rt == 0) (.bgtz rs imm)
  | 0x08 => .ok (.addi rs rt imm)
  | 0x09 => .ok (.addiu rs rt imm)
  | 0x0A => .ok (.slti rs rt imm)
  | 0x0B => .ok (.sltiu rs rt imm)
  | 0x0C => .ok (.andi rs rt imm)
  | 0x0D => .ok (.ori rs rt imm)
  | 0x0E => .ok (.xori rs rt imm)
  | 0x0F => zeroField (rs == 0) (.lui rt imm)
  | 0x10 => decodeCop0 rs rt rd sa funct
  | 0x11 => .ok (.cop1 (rs ++ rt ++ imm))
  | 0x12 => .ok (.cop2 (rs ++ rt ++ imm))
  | 0x13 => .ok (.cop3 (rs ++ rt ++ imm))
  | 0x14 => .ok (.beql rs rt imm)
  | 0x15 => .ok (.bnel rs rt imm)
  | 0x16 => zeroField (rt == 0) (.blezl rs imm)
  | 0x17 => zeroField (rt == 0) (.bgtzl rs imm)
  | 0x18 => .ok (.daddi rs rt imm)
  | 0x19 => .ok (.daddiu rs rt imm)
  | 0x1A => .ok (.ldl rs rt imm)
  | 0x1B => .ok (.ldr rs rt imm)
  | 0x20 => .ok (.lb rs rt imm)
  | 0x21 => .ok (.lh rs rt imm)
  | 0x22 => .ok (.lwl rs rt imm)
  | 0x23 => .ok (.lw rs rt imm)
  | 0x24 => .ok (.lbu rs rt imm)
  | 0x25 => .ok (.lhu rs rt imm)
  | 0x26 => .ok (.lwr rs rt imm)
  | 0x27 => .ok (.lwu rs rt imm)
  | 0x28 => .ok (.sb rs rt imm)
  | 0x29 => .ok (.sh rs rt imm)
  | 0x2A => .ok (.swl rs rt imm)
  | 0x2B => .ok (.sw rs rt imm)
  | 0x2C => .ok (.sdl rs rt imm)
  | 0x2D => .ok (.sdr rs rt imm)
  | 0x2E => .ok (.swr rs rt imm)
  | 0x2F => decodeCache rs rt imm
  | 0x30 => .ok (.ll rs rt imm)
  | 0x31 => .ok (.lwc1 rs rt imm)
  | 0x32 => .ok (.lwc2 rs rt imm)
  | 0x34 => .ok (.lld rs rt imm)
  | 0x35 => .ok (.ldc1 rs rt imm)
  | 0x36 => .ok (.ldc2 rs rt imm)
  | 0x37 => .ok (.ld rs rt imm)
  | 0x38 => .ok (.sc rs rt imm)
  | 0x39 => .ok (.swc1 rs rt imm)
  | 0x3A => .ok (.swc2 rs rt imm)
  | 0x3C => .ok (.scd rs rt imm)
  | 0x3D => .ok (.sdc1 rs rt imm)
  | 0x3E => .ok (.sdc2 rs rt imm)
  | 0x3F => .ok (.sd rs rt imm)
  | _ => .error .reserved

/-- The instruction a 32-bit word stands for (30:R161, R163). -/
def decode (w : Word32) : Except DecodeError Instr :=
  decodeFields (w.extractLsb' 26 6) (w.extractLsb' 21 5) (w.extractLsb' 16 5) (w.extractLsb' 0 16)

/-- The word four bytes stand for, the first at the lowest address, in the given byte order (20:R110, R122). -/
def wordOfBytes (bigEndian : Bool) (b0 b1 b2 b3 : Byte) : Word32 :=
  if bigEndian then b0 ++ b1 ++ b2 ++ b3 else b3 ++ b2 ++ b1 ++ b0

/-- The instruction four bytes stand for, the first at the lowest address. -/
def decodeBytes (bigEndian : Bool) (b0 b1 b2 b3 : Byte) : Except DecodeError Instr :=
  decode (wordOfBytes bigEndian b0 b1 b2 b3)

/-- The host's question: the decoder's answer for an instruction whose low `nbits` bits are those of `w` and whose other
bits are zero, laid out as four bytes in little-endian order. -/
def decodeTableWord (nbits w : Nat) : Option Instr :=
  let v : Word32 := BitVec.ofNat 32 (w % 2 ^ nbits)
  match decodeBytes false (v.extractLsb' 0 8) (v.extractLsb' 8 8) (v.extractLsb' 16 8) (v.extractLsb' 24 8) with
  | .ok i => some i
  | .error _ => none

/-- An I-format word (30:R161). -/
def iType (op : BitVec 6) (rs rt : Reg) (imm : BitVec 16) : Word32 :=
  op ++ rs ++ rt ++ imm

/-- An R-format word with major opcode SPECIAL (30:R161, R165). -/
def rType (rs rt rd : Reg) (sa : BitVec 5) (funct : BitVec 6) : Word32 :=
  iType 0 rs rt (rd ++ sa ++ funct)

/-- A J-format word (30:R161). -/
def jType (op : BitVec 6) (target : BitVec 26) : Word32 :=
  iType op (target.extractLsb' 21 5) (target.extractLsb' 16 5) (target.extractLsb' 0 16)

/-- SYSCALL and BREAK, with their code in bits 25..6 (30:R161). -/
def codeType (code : BitVec 20) (funct : BitVec 6) : Word32 :=
  rType (code.extractLsb' 15 5) (code.extractLsb' 10 5) (code.extractLsb' 5 5) (code.extractLsb' 0 5) funct

/-- A register trap, with its code in bits 15..6 (30:R161). -/
def trapType (rs rt : Reg) (code : BitVec 10) (funct : BitVec 6) : Word32 :=
  rType rs rt (code.extractLsb' 5 5) (code.extractLsb' 0 5) funct

/-- A CP0 move (30:R167). -/
def cp0MoveType (rs rt rd : Reg) : Word32 :=
  iType 0x10 rs rt (rd ++ (0 : BitVec 11))

/-- A CO function of COP0 (30:R167). -/
def coType (funct : BitVec 6) : Word32 :=
  iType 0x10 0x10 0 ((0 : BitVec 10) ++ funct)

/-- The word of an instruction (30:R164 to R169, spec/opcode_table.json). -/
def encode : Instr → Word32
  | .lb base rt offset => iType 0x20 base rt offset
  | .lbu base rt offset => iType 0x24 base rt offset
  | .lh base rt offset => iType 0x21 base rt offset
  | .lhu base rt offset => iType 0x25 base rt offset
  | .lw base rt offset => iType 0x23 base rt offset
  | .lwu base rt offset => iType 0x27 base rt offset
  | .ld base rt offset => iType 0x37 base rt offset
  | .lwl base rt offset => iType 0x22 base rt offset
  | .lwr base rt offset => iType 0x26 base rt offset
  | .ldl base rt offset => iType 0x1A base rt offset
  | .ldr base rt offset => iType 0x1B base rt offset
  | .sb base rt offset => iType 0x28 base rt offset
  | .sh base rt offset => iType 0x29 base rt offset
  | .sw base rt offset => iType 0x2B base rt offset
  | .sd base rt offset => iType 0x3F base rt offset
  | .swl base rt offset => iType 0x2A base rt offset
  | .swr base rt offset => iType 0x2E base rt offset
  | .sdl base rt offset => iType 0x2C base rt offset
  | .sdr base rt offset => iType 0x2D base rt offset
  | .addi rs rt imm => iType 0x08 rs rt imm
  | .addiu rs rt imm => iType 0x09 rs rt imm
  | .slti rs rt imm => iType 0x0A rs rt imm
  | .sltiu rs rt imm => iType 0x0B rs rt imm
  | .andi rs rt imm => iType 0x0C rs rt imm
  | .ori rs rt imm => iType 0x0D rs rt imm
  | .xori rs rt imm => iType 0x0E rs rt imm
  | .daddi rs rt imm => iType 0x18 rs rt imm
  | .daddiu rs rt imm => iType 0x19 rs rt imm
  | .lui rt imm => iType 0x0F 0 rt imm
  | .add rs rt rd => rType rs rt rd 0 0x20
  | .addu rs rt rd => rType rs rt rd 0 0x21
  | .sub rs rt rd => rType rs rt rd 0 0x22
  | .subu rs rt rd => rType rs rt rd 0 0x23
  | .slt rs rt rd => rType rs rt rd 0 0x2A
  | .sltu rs rt rd => rType rs rt rd 0 0x2B
  | .and rs rt rd => rType rs rt rd 0 0x24
  | .or rs rt rd => rType rs rt rd 0 0x25
  | .xor rs rt rd => rType rs rt rd 0 0x26
  | .nor rs rt rd => rType rs rt rd 0 0x27
  | .dadd rs rt rd => rType rs rt rd 0 0x2C
  | .daddu rs rt rd => rType rs rt rd 0 0x2D
  | .dsub rs rt rd => rType rs rt rd 0 0x2E
  | .dsubu rs rt rd => rType rs rt rd 0 0x2F
  | .sll rt rd sa => rType 0 rt rd sa 0x00
  | .srl rt rd sa => rType 0 rt rd sa 0x02
  | .sra rt rd sa => rType 0 rt rd sa 0x03
  | .dsll rt rd sa => rType 0 rt rd sa 0x38
  | .dsrl rt rd sa => rType 0 rt rd sa 0x3A
  | .dsra rt rd sa => rType 0 rt rd sa 0x3B
  | .dsll32 rt rd sa => rType 0 rt rd sa 0x3C
  | .dsrl32 rt rd sa => rType 0 rt rd sa 0x3E
  | .dsra32 rt rd sa => rType 0 rt rd sa 0x3F
  | .sllv rs rt rd => rType rs rt rd 0 0x04
  | .srlv rs rt rd => rType rs rt rd 0 0x06
  | .srav rs rt rd => rType rs rt rd 0 0x07
  | .dsllv rs rt rd => rType rs rt rd 0 0x14
  | .dsrlv rs rt rd => rType rs rt rd 0 0x16
  | .dsrav rs rt rd => rType rs rt rd 0 0x17
  | .mult rs rt => rType rs rt 0 0 0x18
  | .multu rs rt => rType rs rt 0 0 0x19
  | .div rs rt => rType rs rt 0 0 0x1A
  | .divu rs rt => rType rs rt 0 0 0x1B
  | .dmult rs rt => rType rs rt 0 0 0x1C
  | .dmultu rs rt => rType rs rt 0 0 0x1D
  | .ddiv rs rt => rType rs rt 0 0 0x1E
  | .ddivu rs rt => rType rs rt 0 0 0x1F
  | .mfhi rd => rType 0 0 rd 0 0x10
  | .mthi rs => rType rs 0 0 0 0x11
  | .mflo rd => rType 0 0 rd 0 0x12
  | .mtlo rs => rType rs 0 0 0 0x13
  | .madd16 rs rt => rType rs rt 0 0 0x28
  | .dmadd16 rs rt => rType rs rt 0 0 0x29
  | .j target => jType 0x02 target
  | .jal target => jType 0x03 target
  | .jr rs => rType rs 0 0 0 0x08
  | .jalr rs rd => rType rs 0 rd 0 0x09
  | .beq rs rt offset => iType 0x04 rs rt offset
  | .bne rs rt offset => iType 0x05 rs rt offset
  | .blez rs offset => iType 0x06 rs 0 offset
  | .bgtz rs offset => iType 0x07 rs 0 offset
  | .bltz rs offset => iType 0x01 rs 0x00 offset
  | .bgez rs offset => iType 0x01 rs 0x01 offset
  | .bltzal rs offset => iType 0x01 rs 0x10 offset
  | .bgezal rs offset => iType 0x01 rs 0x11 offset
  | .bltzl rs offset => iType 0x01 rs 0x02 offset
  | .bgezl rs offset => iType 0x01 rs 0x03 offset
  | .bltzall rs offset => iType 0x01 rs 0x12 offset
  | .bgezall rs offset => iType 0x01 rs 0x13 offset
  | .beql rs rt offset => iType 0x14 rs rt offset
  | .bnel rs rt offset => iType 0x15 rs rt offset
  | .blezl rs offset => iType 0x16 rs 0 offset
  | .bgtzl rs offset => iType 0x17 rs 0 offset
  | .syscall code => codeType code 0x0C
  | .brk code => codeType code 0x0D
  | .sync => rType 0 0 0 0 0x0F
  | .tge rs rt code => trapType rs rt code 0x30
  | .tgeu rs rt code => trapType rs rt code 0x31
  | .tlt rs rt code => trapType rs rt code 0x32
  | .tltu rs rt code => trapType rs rt code 0x33
  | .teq rs rt code => trapType rs rt code 0x34
  | .tne rs rt code => trapType rs rt code 0x36
  | .tgei rs imm => iType 0x01 rs 0x08 imm
  | .tgeiu rs imm => iType 0x01 rs 0x09 imm
  | .tlti rs imm => iType 0x01 rs 0x0A imm
  | .tltiu rs imm => iType 0x01 rs 0x0B imm
  | .teqi rs imm => iType 0x01 rs 0x0C imm
  | .tnei rs imm => iType 0x01 rs 0x0E imm
  | .ll base rt offset => iType 0x30 base rt offset
  | .sc base rt offset => iType 0x38 base rt offset
  | .lld base rt offset => iType 0x34 base rt offset
  | .scd base rt offset => iType 0x3C base rt offset
  | .cop1 cofun => jType 0x11 cofun
  | .lwc1 base ft offset => iType 0x31 base ft offset
  | .swc1 base ft offset => iType 0x39 base ft offset
  | .ldc1 base ft offset => iType 0x35 base ft offset
  | .sdc1 base ft offset => iType 0x3D base ft offset
  | .cop2 cofun => jType 0x12 cofun
  | .cop3 cofun => jType 0x13 cofun
  | .lwc2 base rt offset => iType 0x32 base rt offset
  | .swc2 base rt offset => iType 0x3A base rt offset
  | .ldc2 base rt offset => iType 0x36 base rt offset
  | .sdc2 base rt offset => iType 0x3E base rt offset
  | .mfc0 rt rd => cp0MoveType 0x00 rt rd
  | .mtc0 rt rd => cp0MoveType 0x04 rt rd
  | .dmfc0 rt rd => cp0MoveType 0x01 rt rd
  | .dmtc0 rt rd => cp0MoveType 0x05 rt rd
  | .tlbr => coType 0x01
  | .tlbwi => coType 0x02
  | .tlbwr => coType 0x06
  | .tlbp => coType 0x08
  | .eret => coType 0x18
  | .cacheIndexInvalidateI base offset => iType 0x2F base 0x00 offset
  | .cacheIndexWriteBackInvalidateD base offset => iType 0x2F base 0x01 offset
  | .cacheIndexLoadTagI base offset => iType 0x2F base 0x04 offset
  | .cacheIndexLoadTagD base offset => iType 0x2F base 0x05 offset
  | .cacheIndexStoreTagI base offset => iType 0x2F base 0x08 offset
  | .cacheIndexStoreTagD base offset => iType 0x2F base 0x09 offset
  | .cacheCreateDirtyD base offset => iType 0x2F base 0x0D offset
  | .cacheHitInvalidateI base offset => iType 0x2F base 0x10 offset
  | .cacheHitInvalidateD base offset => iType 0x2F base 0x11 offset
  | .cacheFillI base offset => iType 0x2F base 0x14 offset
  | .cacheHitWriteBackInvalidateD base offset => iType 0x2F base 0x15 offset
  | .cacheHitWriteBackI base offset => iType 0x2F base 0x18 offset
  | .cacheHitWriteBackD base offset => iType 0x2F base 0x19 offset
  | .standby => coType 0x21
  | .suspend => coType 0x22
  | .hibernate => coType 0x23

end Sys2Proof
end

