-- ==== Sys2Proof/Machine/Memory.lean ====
section
/-! DEFINITION. External memory (20:R100): one byte for each of the 2^32 physical addresses, as a list of the bytes that
differ from what an unlisted address reads as, addresses strictly rising. -/

namespace Sys2Proof.Machine

/-- What a byte of memory that nothing has written reads as (DESIGN CHOICE, log 4). -/
def unlistedByte : Byte := 0

/-- Reads a rising list of cells. -/
def readCells : List Host.Cell → Nat → Byte
  | [], _ => unlistedByte
  | (a, b) :: cs, k => if k < a then unlistedByte else if a = k then b else readCells cs k

/-- Writes a rising list of cells; an entry equal to the unlisted byte is not kept. -/
def writeCells : List Host.Cell → Nat → Byte → List Host.Cell
  | [], k, b => if b = unlistedByte then [] else [(k, b)]
  | (a, c) :: cs, k, b =>
    if k < a then (if b = unlistedByte then (a, c) :: cs else (k, b) :: (a, c) :: cs)
    else if a = k then (if b = unlistedByte then cs else (k, b) :: cs)
    else (a, c) :: writeCells cs k b

/-- The canonical form, from a lowest allowed address on: strictly rising physical addresses, no entry equal to the
unlisted byte. -/
def cellsWf (lowest : Nat) : List Host.Cell → Bool
  | [] => true
  | (a, b) :: cs => decide (lowest ≤ a) && decide (a < 2 ^ 32) && decide (b ≠ unlistedByte) && cellsWf (a + 1) cs

/-- The canonical form of memory. -/
def Memory.wf (m : Memory) : Bool := cellsWf 0 m.cells

/-- The byte at a physical address. -/
def Memory.read (m : Memory) (a : PAddr) : Byte := readCells m.cells a.toNat

/-- The memory with one byte changed. -/
def Memory.write (m : Memory) (a : PAddr) (b : Byte) : Memory := { cells := writeCells m.cells a.toNat b }

/-- The memory with several bytes changed, one after the other. -/
def Memory.writeAll (m : Memory) (ws : List (PAddr × Byte)) : Memory :=
  ws.foldl (fun m w => m.write w.1 w.2) m

/-- The memory after some of the bytes in which another one differs from it have been received. -/
def Memory.receive (m new : Memory) (received : PAddr → Bool) : Memory :=
  (m.cells ++ new.cells).foldl
    (fun acc c =>
      let a := BitVec.ofNat 32 c.1
      if received a then acc.write a (new.read a) else acc) m

/-- The address of byte `i` of a 16-byte line (20:R144). -/
def lineByte (line : BitVec 28) (i : Nat) : PAddr := line ++ BitVec.ofNat 4 i

/-- The sixteen bytes of a line. -/
def Memory.readLine (m : Memory) (line : BitVec 28) : Vector Byte 16 :=
  Vector.ofFn fun i => m.read (lineByte line i.val)

/-- The memory with the sixteen bytes of a line changed. -/
def Memory.writeLine (m : Memory) (line : BitVec 28) (data : Vector Byte 16) : Memory :=
  m.writeAll ((List.finRange 16).map fun i => (lineByte line i.val, data[i]))

end Sys2Proof.Machine
end

