-- ==== Sys2Proof/Machine/Cache.lean ====
section
/-! DEFINITION. Physical accesses: the external agent's answers (20:R124, R154), the data cache (20:R141, R142, R144), the
instruction cache (20:R143), and parity (20:R155 to R157; log 36 to 38). -/

namespace Sys2Proof.Machine

/-- Parity is checked (10:R44 DE, 20:R155). -/
def State.parityOn (s : State) : Bool := !s.cp0.status.de

/-- Parity of read responses is checked (20:R157), unless HizParity was active at cold reset (00:R5). -/
def State.busParityOn (s : State) : Bool := s.parityOn && !s.busParityOff

/-- The word a physical byte address lies in. -/
def wordOf (a : PAddr) : WordAddr := a.extractLsb' 2 30

/-- The external agent's answer to a read of the words that satisfy a condition: none at all (20:R154), or a cache error for
wrong parity in one of the words whose data check is not disabled (20:R151, R157; log 38), which ranks above (60:R403) the bus
error for an error indication. That the processor makes these reads, one for each access of an instruction and no speculative or
repeated one, is a DESIGN CHOICE (log 55): 20:R134 is silent. -/
def State.busRead (words : WordAddr → Bool) (busError : Exc) (s : State) : Access Unit :=
  if s.noResponse.any words then .hang s
  else if s.busParityOn && s.badParity.any (fun a => words (wordOf a) && !s.unchecked.contains (wordOf a)) then
    .raise .cacheError s
  else if s.busErrors.any words then .raise busError s
  else .ok () s

/-- The line a physical byte address lies in. -/
def lineOf (a : PAddr) : BitVec 28 := a.extractLsb' 4 28

/-- The words of a line. -/
def lineHasWord (line : BitVec 28) (w : WordAddr) : Bool := w.extractLsb' 2 28 == line

/-- The tag of a physical address (10:R74, R75). -/
def tagOf (a : PAddr) : BitVec 22 := a.extractLsb' 10 22

/-- The data cache index: bits 9..4, which are the same in the virtual and the physical address (20:R144). -/
def dIndex (a : PAddr) : BitVec 6 := a.extractLsb' 4 6

/-- The place of a byte in its line. -/
def lineOffset (a : PAddr) : BitVec 4 := a.extractLsb' 0 4

/-- The data cache line at an index. -/
def State.dLine (i : BitVec 6) (s : State) : DCacheLine := s.dcache[i.toNat]'i.isLt

/-- Replaces the data cache line at an index. -/
def State.setDLine (i : BitVec 6) (l : DCacheLine) (s : State) : State :=
  { s with dcache := s.dcache.set i.toNat l i.isLt }

/-- The instruction cache line at an index. -/
def State.iLine (i : BitVec 7) (s : State) : ICacheLine := s.icache[i.toNat]'i.isLt

/-- Replaces the instruction cache line at an index. -/
def State.setILine (i : BitVec 7) (l : ICacheLine) (s : State) : State :=
  { s with icache := s.icache.set i.toNat l i.isLt }

/-- Changes external memory only. -/
def State.mapMem (f : Memory → Memory) (s : State) : State := { s with mem := f s.mem }

/-- A hit (20:R141). -/
def DCacheLine.hit (l : DCacheLine) (pa : PAddr) : Bool := l.v && l.ptag == tagOf pa

/-- A hit (20:R143). -/
def ICacheLine.hit (l : ICacheLine) (pa : PAddr) : Bool := l.v && l.ptag == tagOf pa

/-- The line is Valid Dirty (10:R75). -/
def DCacheLine.dirty (l : DCacheLine) : Bool := l.v && l.w

/-- A tag parity error: P against the tag, W' against W (10:R75). -/
def DCacheLine.tagError (l : DCacheLine) : Bool := l.p != evenParity l.ptag || l.wPrime != l.w

/-- A tag parity error (10:R74). -/
def ICacheLine.tagError (l : ICacheLine) : Bool := l.p != evenParity l.ptag

/-- A byte of a data cache line. -/
def DCacheLine.byte (l : DCacheLine) (o : BitVec 4) : Byte := l.data[o.toNat]'o.isLt

/-- A data parity error in a byte (10:R75). -/
def DCacheLine.byteError (l : DCacheLine) (o : BitVec 4) : Bool := l.dataP.getLsbD o.toNat != evenParity (l.byte o)

/-- A data parity error in the line. -/
def DCacheLine.dataError (l : DCacheLine) : Bool :=
  (List.finRange 16).any fun i => l.byteError (BitVec.ofFin i)

/-- The four bytes of a word of an instruction cache line, in address order. -/
def ICacheLine.wordBytes (l : ICacheLine) (k : BitVec 2) : BitVec 32 :=
  let byte (o : BitVec 4) : Byte := l.data[o.toNat]'o.isLt
  byte (k ++ (0 : BitVec 2)) ++ byte (k ++ (1 : BitVec 2)) ++ byte (k ++ (2 : BitVec 2)) ++ byte (k ++ (3 : BitVec 2))

/-- A data parity error in a word (10:R74). -/
def ICacheLine.wordError (l : ICacheLine) (k : BitVec 2) : Bool := l.dataP.getLsbD k.toNat != evenParity (l.wordBytes k)

/-- A bit vector from its bits. -/
def bitsOf (w : Nat) (f : Nat → Bool) : BitVec w :=
  (List.range w).foldl (fun acc i => acc ||| ((BitVec.ofBool (f i)).setWidth w <<< i)) 0

/-- The parity of sixteen bytes, one bit for each (10:R75). -/
def byteParities (data : Vector Byte 16) : BitVec 16 :=
  bitsOf 16 fun i => if h : i < 16 then evenParity (data[i]'h) else false

/-- The parity of four words, one bit for each (10:R74). -/
def wordParities (l : ICacheLine) : BitVec 4 := bitsOf 4 fun i => evenParity (l.wordBytes (BitVec.ofNat 2 i))

/-- The bytes of a line whose parity bits the external agent supplies wrong, checked or not, in address order; none where it
supplies no parity (20:R156, R157; log 36). -/
def State.wrongParity (line : BitVec 28) (s : State) : BitVec 16 :=
  if s.busParityOff then 0 else bitsOf 16 fun k => s.badParity.contains (lineByte line k)

/-- Of each four bits, whether an odd number is set: what wrong byte parities do to the parity of a word. -/
def oddNibbles (v : BitVec 16) : BitVec 4 := bitsOf 4 fun i => evenParity (v.extractLsb' (4 * i) 4)

/-- A data cache line just read from memory: Valid Clean (20:R141), tag parity generated, data parity as supplied (20:R156). -/
def DCacheLine.filled (pa : PAddr) (data : Vector Byte 16) (wrong : BitVec 16) : DCacheLine where
  ptag := tagOf pa
  v := true
  p := evenParity (tagOf pa)
  w := false
  wPrime := false
  data := data
  dataP := byteParities data ^^^ wrong

/-- An instruction cache line just read from memory (20:R143), tag parity generated, data parity as supplied (20:R156). -/
def ICacheLine.filled (pa : PAddr) (data : Vector Byte 16) (wrong : BitVec 16) : ICacheLine :=
  let l : ICacheLine := { ptag := tagOf pa, v := true, p := evenParity (tagOf pa), data := data, dataP := 0 }
  { l with dataP := wordParities l ^^^ oddNibbles wrong }

/-- The physical line of a data cache line (20:R144). -/
def DCacheLine.address (l : DCacheLine) (i : BitVec 6) : BitVec 28 := l.ptag ++ i

/-- A write-back: a block write, then the line is clean (20:R144). -/
def State.writeBack (i : BitVec 6) (s : State) : State :=
  let l := s.dLine i
  (s.mapMem fun m => m.writeLine (l.address i) l.data).setDLine i { l with w := false, wPrime := false }

/-- The bytes memory receives from a write-back with a data parity error: open (20:R156, C18, log 37). -/
def State.wrongData (s : State) : Vector Byte 16 :=
  Vector.ofFn fun i =>
    if i.val < 8 then (s.freeWord .writeBackLow).extractLsb' (8 * i.val) 8
    else (s.freeWord .writeBackHigh).extractLsb' (8 * (i.val - 8)) 8

/-- A write-back with a data parity error: wrong data is written (20:R156). -/
def State.writeBackWrong (i : BitVec 6) (s : State) : State :=
  let l := s.dLine i
  (s.mapMem fun m => m.writeLine (l.address i) s.wrongData).setDLine i { l with w := false, wPrime := false }

/-- Makes room at an index: a Valid Dirty line is written back first (20:R141, R142); a parity error found then raises a cache
error after the write-back (20:R156). -/
def State.evict (i : BitVec 6) (s : State) : Access Unit :=
  let l := s.dLine i
  if l.dirty then
    if s.parityOn && l.dataError then .raise .cacheError (s.writeBackWrong i)
    else if s.parityOn && l.tagError then .raise .cacheError (s.writeBack i)
    else .ok () (s.writeBack i)
  else if s.parityOn && l.tagError then .raise .cacheError s
  else .ok () s

/-- Reads a line into the data cache; a response with an error leaves the line invalid (20:R141, log 48). -/
def State.fillData (pa : PAddr) (s : State) : Access Unit :=
  let i := dIndex pa
  ((s.setDLine i { s.dLine i with v := false }).busRead (lineHasWord (lineOf pa)) .dbe).andThen fun _ t =>
    .ok () (t.setDLine i (DCacheLine.filled pa (t.mem.readLine (lineOf pa)) (t.wrongParity (lineOf pa))))

/-- Makes the line of a physical address present in the data cache (20:R141, R142), its tag parity checked (20:R156). -/
def State.openLine (pa : PAddr) (s : State) : Access Unit :=
  let l := s.dLine (dIndex pa)
  if l.hit pa then
    if s.parityOn && l.tagError then .raise .cacheError s else .ok () s
  else
    (s.evict (dIndex pa)).andThen fun _ t => t.fillData pa

/-- A byte of the data cache at a physical address whose line is present. -/
def State.cachedByte (a : PAddr) (s : State) : Byte := (s.dLine (dIndex a)).byte (lineOffset a)

/-- That byte has a parity error. -/
def State.cachedByteError (a : PAddr) (s : State) : Bool := (s.dLine (dIndex a)).byteError (lineOffset a)

/-- Reads bytes of one line through the data cache (20:R141), their parity checked (20:R156): that of the bytes the load
reads, not that of the rest of the word or line (DESIGN CHOICE, log 36). They are checked here after a miss too, also where the
external agent disabled the check of the fill (20:R157): that is a DESIGN CHOICE as well (log 36). -/
def State.readCached (pa : PAddr) (addrs : List PAddr) (s : State) : Access (List Byte) :=
  (s.openLine pa).andThen fun _ t =>
    if t.parityOn && addrs.any (fun a => t.cachedByteError a) then .raise .cacheError t
    else .ok (addrs.map fun a => t.cachedByte a) t

/-- Reads bytes of one doubleword from the external agent (20:R124). -/
def State.readUncached (addrs : List PAddr) (s : State) : Access (List Byte) :=
  (s.busRead (fun w => addrs.any fun a => wordOf a == w) .dbe).andThen fun _ t =>
    .ok (addrs.map fun a => t.mem.read a) t

/-- `PhysRead` for data (20:R124). -/
def State.physRead (pa : PAddr) (cached : Bool) (addrs : List PAddr) (s : State) : Access (List Byte) :=
  if cached then s.readCached pa addrs else s.readUncached addrs

/-- The parity bit a store gives a byte: computed, or with Status.CE = 1 from the Parity Error register (10:R67). -/
def State.storeParity (a : PAddr) (b : Byte) (s : State) : Bool :=
  if s.cp0.status.ce then Config.storeByteParity s.cp0.parityErr (a.extractLsb' 0 3) else evenParity b

/-- A byte written into a data cache line, which becomes dirty (20:R142); the parity W' of W is generated, also with Status.CE = 1
(DESIGN CHOICE, log 36). -/
def DCacheLine.setByte (o : BitVec 4) (b : Byte) (parity : Bool) (l : DCacheLine) : DCacheLine :=
  { l with
    data := l.data.set o.toNat b o.isLt
    dataP := bitsOf 16 fun i => if i = o.toNat then parity else l.dataP.getLsbD i
    w := true
    wPrime := true }

/-- A byte written into the data cache at a physical address whose line is present (20:R142). -/
def State.storeCachedByte (a : PAddr) (b : Byte) (s : State) : State :=
  let i := dIndex a
  s.setDLine i ((s.dLine i).setByte (lineOffset a) b (s.storeParity a b))

/-- `PhysWrite` (20:R124): into the data cache, or to the external agent, which gives no response. -/
def State.physWrite (pa : PAddr) (cached : Bool) (ws : List (PAddr × Byte)) (s : State) : Access Unit :=
  if cached then
    (s.openLine pa).andThen fun _ t => .ok () (ws.foldl (fun u w => u.storeCachedByte w.1 w.2) t)
  else .ok () (s.mapMem fun m => m.writeAll ws)

/-- Memory as loads through the data cache find it: the line that holds the address, else external memory. -/
def State.byteAt (a : PAddr) (s : State) : Byte :=
  if (s.dLine (dIndex a)).hit a then s.cachedByte a else s.mem.read a

/-- The instruction cache index (20:R143). -/
def iIndex (va : DWord) : BitVec 7 := va.extractLsb' 4 7

/-- The word of a line a physical address lies in. -/
def wordOffset (a : PAddr) : BitVec 2 := a.extractLsb' 2 2

/-- Reads a line into the instruction cache; a response with an error leaves the line invalid (20:R143, log 48). -/
def State.fillInstruction (i : BitVec 7) (pa : PAddr) (busError : Exc) (s : State) : Access Unit :=
  ((s.setILine i { s.iLine i with v := false }).busRead (lineHasWord (lineOf pa)) busError).andThen fun _ t =>
    .ok () (t.setILine i (ICacheLine.filled pa (t.mem.readLine (lineOf pa)) (t.wrongParity (lineOf pa))))

/-- Makes the line of an instruction present in the instruction cache, its tag parity checked (20:R143, R156). -/
def State.openInstructionLine (i : BitVec 7) (pa : PAddr) (s : State) : Access Unit :=
  let l := s.iLine i
  if s.parityOn && l.tagError then .raise .cacheError s
  else if l.hit pa then .ok () s
  else s.fillInstruction i pa .ibe

/-- Four bytes in address order as a word (20:R110, R122). -/
def wordInOrder (bigEndian : Bool) (bytes : BitVec 32) : Word32 :=
  wordOfBytes bigEndian (bytes.extractLsb' 24 8) (bytes.extractLsb' 16 8) (bytes.extractLsb' 8 8) (bytes.extractLsb' 0 8)

/-- Fetches through the instruction cache (20:R143), the word's parity checked (20:R156): after a miss too, also where the
external agent disabled the check of the fill (20:R157; DESIGN CHOICE, log 36). -/
def State.fetchCached (va : DWord) (pa : PAddr) (s : State) : Access Word32 :=
  let i := iIndex va
  (s.openInstructionLine i pa).andThen fun _ t =>
    let l := t.iLine i
    if t.parityOn && l.wordError (wordOffset pa) then .raise .cacheError t
    else .ok (wordInOrder t.cp0.config.be (l.wordBytes (wordOffset pa))) t

/-- Fetches from the external agent (20:R124). -/
def State.fetchUncached (pa : PAddr) (s : State) : Access Word32 :=
  (s.busRead (fun w => w == wordOf pa) .ibe).andThen fun _ t =>
    .ok (wordOfBytes t.cp0.config.be (t.mem.read pa) (t.mem.read (pa + 1)) (t.mem.read (pa + 2)) (t.mem.read (pa + 3))) t

end Sys2Proof.Machine
end

