-- ==== Sys2Proof/Machine/Translate.lean ====
section
/-! DEFINITION. Address spaces and translation (20:R102 to R108, R115 to R117). -/

namespace Sys2Proof.Machine

/-- The value of the parameter NonCanonicalAddr32 (20:R102, D7): an address error, as MIPS III has it (DESIGN CHOICE, log 6). -/
def nonCanonicalAddr32 : NonCanonicalAddr := .addressError

/-- How a segment turns an address into a physical one. -/
inductive Segment where
  /-- through the TLB -/
  | mapped
  /-- directly (20:R107, R108) -/
  | unmapped (pa : PAddr) (cached : Bool)
  deriving DecidableEq, Repr

/-- A closed range of addresses. -/
def inRange (lo hi va : DWord) : Bool := decide (lo ≤ va) && decide (va ≤ hi)

/-- The physical address in kseg0 and kseg1 (20:R107). -/
def kseg01Address (va : DWord) : PAddr := (va.extractLsb' 0 29).setWidth 32

/-- The user map (20:R104): useg or xuseg. -/
def userSegment (ux : Bool) (va : DWord) : Option Segment :=
  if inRange 0 (if ux then 0xFFFFFFFFFF else 0x7FFFFFFF) va then some .mapped else none

/-- The supervisor map (20:R105): suseg and sseg, or xsuseg, xsseg and csseg. -/
def supervisorSegment (sx : Bool) (va : DWord) : Option Segment :=
  if inRange 0 (if sx then 0xFFFFFFFFFF else 0x7FFFFFFF) va then some .mapped
  else if sx && inRange 0x4000000000000000 0x400000FFFFFFFFFF va then some .mapped
  else if inRange 0xFFFFFFFFC0000000 0xFFFFFFFFDFFFFFFF va then some .mapped
  else none

/-- kuseg or xkuseg; with ERL = 1 its first 2G bytes are an unmapped, uncached window (20:R106, R108). -/
def kernelUserSegment (erl : Bool) (va : DWord) : Segment :=
  if erl && inRange 0 0x7FFFFFFF va then .unmapped ((va.extractLsb' 0 31).setWidth 32) false else .mapped

/-- kseg0, kseg1, ksseg and kseg3, or ckseg0 to ckseg3: the same in both kernel maps (20:R106, R107). -/
def compatibilitySegment (k0 : BitVec 3) (va : DWord) : Option Segment :=
  if inRange 0xFFFFFFFF80000000 0xFFFFFFFF9FFFFFFF va then some (.unmapped (kseg01Address va) (k0 != 2))
  else if inRange 0xFFFFFFFFA0000000 0xFFFFFFFFBFFFFFFF va then some (.unmapped (kseg01Address va) false)
  else if inRange 0xFFFFFFFFC0000000 0xFFFFFFFFFFFFFFFF va then some .mapped
  else none

/-- xksseg, xkphys and xkseg (20:R106, R107). -/
def extendedKernelSegment (va : DWord) : Option Segment :=
  if inRange 0x4000000000000000 0x400000FFFFFFFFFF va then some .mapped
  else if inRange 0x8000000000000000 0xBFFFFFFFFFFFFFFF va then
    if va.extractLsb' 32 27 = 0 then some (.unmapped (va.extractLsb' 0 32) (va.extractLsb' 59 3 != 2)) else none
  else if inRange 0xC000000000000000 0xC00000FF7FFFFFFF va then some .mapped
  else none

/-- The kernel map (20:R106). -/
def kernelSegment (kx erl : Bool) (k0 : BitVec 3) (va : DWord) : Option Segment :=
  if inRange 0 (if kx then 0xFFFFFFFFFF else 0x7FFFFFFF) va then some (kernelUserSegment erl va)
  else match compatibilitySegment k0 va with
    | some seg => some seg
    | none => if kx then extendedKernelSegment va else none

/-- The segment of an address in the current mode (20:R103). -/
def State.segment (va : DWord) (s : State) : Option Segment :=
  match s.mode with
  | .kernel => kernelSegment s.cp0.status.kx s.cp0.status.erl s.cp0.config.k0 va
  | .supervisor => supervisorSegment s.cp0.status.sx va
  | .user => userSegment s.cp0.status.ux va
  | .undefined => none

/-- The five legal values of MASK (10:R36). -/
def legalMask (mask : BitVec 8) : Bool :=
  mask == 0x00 || mask == 0x03 || mask == 0x0F || mask == 0x3F || mask == 0xFF

/-- `PageBits` (20:R117), for a legal mask. -/
def pageBits (mask : BitVec 8) : Nat :=
  match mask.toNat with
  | 0x00 => 10
  | 0x03 => 12
  | 0x0F => 14
  | 0x3F => 16
  | _ => 18

/-- The comparison of 20:R116 and of TLBP (45:R368): space, page number under the mask, and address space identifier. -/
def TlbEntry.matchesKey (e : TlbEntry) (r : BitVec 2) (vpn2 : BitVec 29) (asid : BitVec 8) : Bool :=
  e.r == r
    && e.vpn2 &&& ~~~(e.mask.setWidth 29) == vpn2 &&& ~~~(e.mask.setWidth 29)
    && (e.g || e.asid == asid)

/-- The entries that match a key. -/
def State.tlbMatches (r : BitVec 2) (vpn2 : BitVec 29) (s : State) : List (Fin 32) :=
  (List.finRange 32).filter fun i => (s.tlb[i]).matchesKey r vpn2 s.cp0.entryHi.asid

/-- The page of an entry an address selects (20:R117). -/
def TlbEntry.page (e : TlbEntry) (va : DWord) : TlbPage :=
  if va.getLsbD (pageBits e.mask) then e.odd else e.even

/-- The bits of a physical address below the page size: the page offset (20:R117). -/
def pageOffsetMask (mask : BitVec 8) : PAddr := ((mask ++ (0x3FF : BitVec 10)) : BitVec 18).setWidth 32

/-- The physical address: the page frame above the page size, the page offset below (20:R117). -/
def pageAddress (mask : BitVec 8) (pfn : BitVec 22) (va : DWord) : PAddr :=
  ((pfn ++ (0 : BitVec 10)) &&& ~~~pageOffsetMask mask) ||| (va.extractLsb' 0 32 &&& pageOffsetMask mask)

/-- A physical address and whether the access uses the cache. -/
structure Translation where
  pa : PAddr
  cached : Bool
  deriving DecidableEq, Repr

/-- What a matching entry gives (20:R115). -/
def TlbEntry.translate (e : TlbEntry) (va : DWord) (kind : AccessKind) (s : State) : Access Translation :=
  if legalMask e.mask = false then .refuse .illegalPageMask
  else
    let page := e.page va
    if page.v = false then .raise (.tlbInvalid va kind) s
    else if kind = .store ∧ page.d = false then .raise (.tlbMod va) s
    else .ok { pa := pageAddress e.mask page.pfn va, cached := page.c != 2 } s

/-- Translation of a mapped address (20:R115). -/
def State.translateMapped (va : DWord) (kind : AccessKind) (s : State) : Access Translation :=
  match s.tlbMatches (va.extractLsb' 62 2) (va.extractLsb' 11 29) with
  | [] => .raise (.tlbRefill va kind) s
  | [i] => (s.tlb[i]).translate va kind s
  | _ => .shutdown s

/-- `Translate(vaddr, acc)` (20:R115). -/
def State.translate (va : DWord) (kind : AccessKind) (s : State) : Access Translation :=
  if s.mode = .undefined then .refuse .undefinedMode
  else if s.is64bitAddr = false ∧ isWord va = false then
    match nonCanonicalAddr32 with
    | .fault => .fault .nonCanonicalAddress
    | .addressError => .raise (.addressError va kind) s
  else match s.segment va with
    | none => .raise (.addressError va kind) s
    | some (.unmapped pa cached) => .ok { pa := pa, cached := cached } s
    | some .mapped => s.translateMapped va kind

end Sys2Proof.Machine
end

