-- ==== Sys2Proof/Machine/DataAccess.lean ====
section
/-! DEFINITION. The access primitives: data reads and writes, whole and partial, with alignment, translation and watch
(20:R111, R120, R121, R123; 60:R445), and the fetch of an instruction word (20:R122). -/

namespace Sys2Proof.Machine

/-- `WatchMatch(pa, acc)` (60:R445). -/
def State.watchMatch (pa : PAddr) (kind : AccessKind) (s : State) : Bool :=
  pa.extractLsb' 3 29 == s.cp0.watchLo.paddr0
    && ((kind == .load && s.cp0.watchLo.r) || (kind == .store && s.cp0.watchLo.w))

/-- A watched access raises Watch instead of being made, below a cache error and above a bus error (60:R403, R445); at
exception or error level it has no meaning (U18, log 31). -/
def State.watched {α : Type} (pa : PAddr) (kind : AccessKind) (r : Access α) (s : State) : Access α :=
  if s.watchMatch pa kind then
    match r with
    | .raise .cacheError t => .raise .cacheError t
    | _ =>
      if s.cp0.status.exl || s.cp0.status.erl then .refuse .watchAtExceptionLevel
      else .raise .watch s
  else r

/-- The physical addresses of the bytes of an access, in the order of their virtual addresses: inside the doubleword of `pa`,
each byte lane reversed when the endian is (20:R111, R123). -/
def State.laneAddresses (pa : PAddr) (part : Part) (s : State) : List PAddr :=
  (List.range part.count).map fun k =>
    pa.extractLsb' 3 29
      ++ ((part.start.extractLsb' 0 3 + BitVec.ofNat 3 k) ^^^ (if s.reverseEndian then (7 : BitVec 3) else 0))

/-- `MemReadPart(vaddr, start, n)` (20:R123). -/
def State.loadPart (va : DWord) (part : Part) (s : State) : Access DWord :=
  (s.translate va .load).andThen fun tr t =>
    (t.watched tr.pa .load (t.physRead tr.pa tr.cached (t.laneAddresses tr.pa part))).andThen fun bytes u =>
      .ok (assemble u.bigEndianCpu bytes) u

/-- `MemWritePart(vaddr, start, n, v)` (20:R123). -/
def State.storePart (va : DWord) (part : Part) (v : DWord) (s : State) : Access Unit :=
  (s.translate va .store).andThen fun tr t =>
    t.watched tr.pa .store
      (t.physWrite tr.pa tr.cached
        ((t.laneAddresses tr.pa part).zip (disassemble t.bigEndianCpu part.count v)))

/-- `MemRead(vaddr, n)` (20:R120). -/
def State.load (va : DWord) (n : Nat) (s : State) : Access DWord :=
  if va.toNat % n ≠ 0 then .raise (.addressError va .load) s
  else s.loadPart va { start := va, count := n }

/-- `MemWrite(vaddr, n, v)` (20:R121). -/
def State.store (va : DWord) (n : Nat) (v : DWord) (s : State) : Access Unit :=
  if va.toNat % n ≠ 0 then .raise (.addressError va .store) s
  else s.storePart va { start := va, count := n } v

/-- `Fetch(vaddr)` (20:R122). -/
def State.fetch (va : DWord) (s : State) : Access Word32 :=
  if va.toNat % 4 ≠ 0 then .raise (.addressError va .fetch) s
  else
    (s.translate va .fetch).andThen fun tr t =>
      if tr.cached then t.fetchCached va tr.pa else t.fetchUncached tr.pa

end Sys2Proof.Machine
end

