-- ==== Sys2Proof/Machine/CacheOps.lean ====
section
/-! DEFINITION. The thirteen CACHE operations (45:R370 to R381). -/

namespace Sys2Proof.Machine

/-- What every CACHE operation does first: the CP0 check, the address, its translation as a load (45:R370). -/
def State.cacheOperation (base : Reg) (offset : BitVec 16) (op : DWord → PAddr → State → Access Unit) (s : State) :
    Host.Outcome State Fault Refusal :=
  let va := s.effectiveAddress base offset
  s.requiresCp0
    (((s.translate va .load).andThen fun tr t => (op va tr.pa t).andThen fun _ u => .ok () u.advance).finish)

/-- An operation on an instruction cache line whose tag parity is checked first (45:R370, 20:R156). -/
def State.onILine (i : BitVec 7) (k : ICacheLine → State → Access Unit) (s : State) : Access Unit :=
  if s.parityOn && (s.iLine i).tagError then .raise .cacheError s else k (s.iLine i) s

/-- An operation on a data cache line whose tag parity is checked first (45:R370, 20:R156). -/
def State.onDLine (i : BitVec 6) (k : DCacheLine → State → Access Unit) (s : State) : Access Unit :=
  if s.parityOn && (s.dLine i).tagError then .raise .cacheError s else k (s.dLine i) s

/-- The write-back of a line if it is Valid Dirty; its data parity is not checked (20:R144, R156). -/
def State.writeBackIfDirty (i : BitVec 6) (s : State) : State :=
  if (s.dLine i).dirty then s.writeBack i else s

/-- Invalidates a data cache line. -/
def State.invalidateD (i : BitVec 6) (s : State) : State := s.setDLine i { s.dLine i with v := false }

/-- Invalidates an instruction cache line. -/
def State.invalidateI (i : BitVec 7) (s : State) : State := s.setILine i { s.iLine i with v := false }

/-- The tag parity Index_Store_Tag gives: generated, or TagLo.P when Status.CE = 1 (45:R374, 10:R67). -/
def State.storedTagParity (s : State) : Bool :=
  if s.cp0.status.ce then s.cp0.tagLo.p else evenParity s.cp0.tagLo.ptag

/-- The address of data cache line in bits 9..4 of an effective address (45:R370). -/
def dIndexOf (va : DWord) : BitVec 6 := va.extractLsb' 4 6

/-- Index_Invalidate, instruction cache (45:R371). -/
def indexInvalidateI (va : DWord) (_pa : PAddr) (s : State) : Access Unit :=
  s.onILine (iIndex va) fun _ t => .ok () (t.invalidateI (iIndex va))

/-- Index_WriteBack_Invalidate, data cache (45:R372). -/
def indexWriteBackInvalidateD (va : DWord) (_pa : PAddr) (s : State) : Access Unit :=
  s.onDLine (dIndexOf va) fun _ t => .ok () ((t.writeBackIfDirty (dIndexOf va)).invalidateD (dIndexOf va))

/-- Index_Load_Tag, instruction cache (45:R373): no parity check; W, W', D and Parity Error are open (log 25). -/
def indexLoadTagI (va : DWord) (_pa : PAddr) (s : State) : Access Unit :=
  let l := s.iLine (iIndex va)
  .ok () <| s.mapCp0 fun c =>
    { c with
      tagLo :=
        { ptag := l.ptag, v := l.v, p := l.p
          d := s.freeBit .tagLoD, w := s.freeBit .tagLoW, wPrime := s.freeBit .tagLoWPrime }
      parityErr := s.freeBits .parityErr 8 }

/-- Index_Load_Tag, data cache (45:R373): no parity check; D and Parity Error are open (log 25). -/
def indexLoadTagD (va : DWord) (_pa : PAddr) (s : State) : Access Unit :=
  let l := s.dLine (dIndexOf va)
  .ok () <| s.mapCp0 fun c =>
    { c with
      tagLo := { ptag := l.ptag, v := l.v, p := l.p, d := s.freeBit .tagLoD, w := l.w, wPrime := l.wPrime }
      parityErr := s.freeBits .parityErr 8 }

/-- Index_Store_Tag, instruction cache (45:R374). -/
def indexStoreTagI (va : DWord) (_pa : PAddr) (s : State) : Access Unit :=
  s.onILine (iIndex va) fun l t =>
    .ok () (t.setILine (iIndex va) { l with ptag := t.cp0.tagLo.ptag, v := t.cp0.tagLo.v, p := t.storedTagParity })

/-- Index_Store_Tag, data cache (45:R374). With Status.CE = 1 only the tag parity P comes from TagLo; that the parity W' of W is
generated then too is a DESIGN CHOICE (log 36): the rule names no W' there. -/
def indexStoreTagD (va : DWord) (_pa : PAddr) (s : State) : Access Unit :=
  s.onDLine (dIndexOf va) fun l t =>
    .ok () <| t.setDLine (dIndexOf va)
      { l with
        ptag := t.cp0.tagLo.ptag, v := t.cp0.tagLo.v, p := t.storedTagParity
        w := t.cp0.tagLo.w, wPrime := t.cp0.tagLo.w }

/-- Create_Dirty, data cache (45:R375): the data stays what the line held; the parity of the tag and of W is generated, also
with Status.CE = 1 (DESIGN CHOICE, log 36). -/
def createDirtyD (va : DWord) (pa : PAddr) (s : State) : Access Unit :=
  let i := dIndexOf va
  s.onDLine i fun l t =>
    let u := if l.hit pa then t else t.writeBackIfDirty i
    .ok () (u.setDLine i
      { u.dLine i with ptag := tagOf pa, v := true, p := evenParity (tagOf pa), w := true, wPrime := true })

/-- Hit_Invalidate, instruction cache (45:R376). -/
def hitInvalidateI (va : DWord) (pa : PAddr) (s : State) : Access Unit :=
  s.onILine (iIndex va) fun l t => .ok () (if l.hit pa then t.invalidateI (iIndex va) else t)

/-- Hit_Invalidate, data cache (45:R377): no write-back. -/
def hitInvalidateD (va : DWord) (pa : PAddr) (s : State) : Access Unit :=
  s.onDLine (dIndexOf va) fun l t => .ok () (if l.hit pa then t.invalidateD (dIndexOf va) else t)

/-- Fill, instruction cache (45:R378): the data parity comes from the Parity Error register; a bus error is DBE (log 49). The
tag parity P is generated, also with Status.CE = 1 (DESIGN CHOICE, log 36): the rule names no P. -/
def fillI (va : DWord) (pa : PAddr) (s : State) : Access Unit :=
  let i := iIndex va
  s.onILine i fun _ t =>
    (t.fillInstruction i pa .dbe).andThen fun _ u =>
      .ok () (u.setILine i { u.iLine i with dataP := Config.fillParity u.cp0.parityErr })

/-- Hit_WriteBack_Invalidate, data cache (45:R379). -/
def hitWriteBackInvalidateD (va : DWord) (pa : PAddr) (s : State) : Access Unit :=
  let i := dIndexOf va
  s.onDLine i fun l t => .ok () (if l.hit pa then (t.writeBackIfDirty i).invalidateD i else t)

/-- Hit_WriteBack, instruction cache (45:R380): unconditional, the line stays valid. -/
def hitWriteBackI (va : DWord) (pa : PAddr) (s : State) : Access Unit :=
  s.onILine (iIndex va) fun l t =>
    .ok () (if l.hit pa then t.mapMem fun m => m.writeLine (lineOf pa) l.data else t)

/-- Hit_WriteBack, data cache (45:R381): a dirty line becomes clean. -/
def hitWriteBackD (va : DWord) (pa : PAddr) (s : State) : Access Unit :=
  s.onDLine (dIndexOf va) fun l t => .ok () (if l.hit pa then t.writeBackIfDirty (dIndexOf va) else t)

/-- CACHE_Index_Invalidate_I (45:R371). -/
def execCacheIndexInvalidateI (base : Reg) (offset : BitVec 16) (s : State) : Host.Outcome State Fault Refusal :=
  s.cacheOperation base offset indexInvalidateI

/-- CACHE_Index_WriteBack_Invalidate_D (45:R372). -/
def execCacheIndexWriteBackInvalidateD (base : Reg) (offset : BitVec 16) (s : State) : Host.Outcome State Fault Refusal :=
  s.cacheOperation base offset indexWriteBackInvalidateD

/-- CACHE_Index_Load_Tag_I (45:R373). -/
def execCacheIndexLoadTagI (base : Reg) (offset : BitVec 16) (s : State) : Host.Outcome State Fault Refusal :=
  s.cacheOperation base offset indexLoadTagI

/-- CACHE_Index_Load_Tag_D (45:R373). -/
def execCacheIndexLoadTagD (base : Reg) (offset : BitVec 16) (s : State) : Host.Outcome State Fault Refusal :=
  s.cacheOperation base offset indexLoadTagD

/-- CACHE_Index_Store_Tag_I (45:R374). -/
def execCacheIndexStoreTagI (base : Reg) (offset : BitVec 16) (s : State) : Host.Outcome State Fault Refusal :=
  s.cacheOperation base offset indexStoreTagI

/-- CACHE_Index_Store_Tag_D (45:R374). -/
def execCacheIndexStoreTagD (base : Reg) (offset : BitVec 16) (s : State) : Host.Outcome State Fault Refusal :=
  s.cacheOperation base offset indexStoreTagD

/-- CACHE_Create_Dirty_D (45:R375). -/
def execCacheCreateDirtyD (base : Reg) (offset : BitVec 16) (s : State) : Host.Outcome State Fault Refusal :=
  s.cacheOperation base offset createDirtyD

/-- CACHE_Hit_Invalidate_I (45:R376). -/
def execCacheHitInvalidateI (base : Reg) (offset : BitVec 16) (s : State) : Host.Outcome State Fault Refusal :=
  s.cacheOperation base offset hitInvalidateI

/-- CACHE_Hit_Invalidate_D (45:R377). -/
def execCacheHitInvalidateD (base : Reg) (offset : BitVec 16) (s : State) : Host.Outcome State Fault Refusal :=
  s.cacheOperation base offset hitInvalidateD

/-- CACHE_Fill_I (45:R378). -/
def execCacheFillI (base : Reg) (offset : BitVec 16) (s : State) : Host.Outcome State Fault Refusal :=
  s.cacheOperation base offset fillI

/-- CACHE_Hit_WriteBack_Invalidate_D (45:R379). -/
def execCacheHitWriteBackInvalidateD (base : Reg) (offset : BitVec 16) (s : State) : Host.Outcome State Fault Refusal :=
  s.cacheOperation base offset hitWriteBackInvalidateD

/-- CACHE_Hit_WriteBack_I (45:R380). -/
def execCacheHitWriteBackI (base : Reg) (offset : BitVec 16) (s : State) : Host.Outcome State Fault Refusal :=
  s.cacheOperation base offset hitWriteBackI

/-- CACHE_Hit_WriteBack_D (45:R381). -/
def execCacheHitWriteBackD (base : Reg) (offset : BitVec 16) (s : State) : Host.Outcome State Fault Refusal :=
  s.cacheOperation base offset hitWriteBackD

end Sys2Proof.Machine
end

