-- ==== Sys2Proof/Machine/Computational.lean ====
section
/-! DEFINITION. The computational instructions (spec 41). -/

namespace Sys2Proof.Machine

/-- An instruction whose one effect is a register's new value completes. -/
def State.result (r : Reg) (v : DWord) (s : State) : Host.Outcome State Fault Refusal := .next (s.writeReg r v)

/-- A 32-bit operation: its result sign-extended, or an open value where an operand is no word (41:R230, U11, log 16). -/
def State.wordResult (r : Reg) (defined : Bool) (v : Word32) (s : State) : Host.Outcome State Fault Refusal :=
  s.result r (if defined then sext32 v else s.freeWord .gprResult)

/-- A 32-bit operation that traps on overflow; on a non-word operand both whether it traps and its result are open
(41:R230, R271, U11, log 16). -/
def State.wordResultOrOverflow (r : Reg) (defined overflows : Bool) (v : Word32) (s : State) :
    Host.Outcome State Fault Refusal :=
  if (if defined then overflows else s.freeBit .overflowTaken) then s.raise .ov else s.wordResult r defined v

/-- A 64-bit operation that traps on overflow (41:R270, R271). -/
def State.dwordResultOrOverflow (r : Reg) (overflows : Bool) (v : DWord) (s : State) :
    Host.Outcome State Fault Refusal :=
  s.requires64 (if overflows then s.raise .ov else s.result r v)

/-- A 64-bit operation (41:R270). -/
def State.dwordResult (r : Reg) (v : DWord) (s : State) : Host.Outcome State Fault Refusal :=
  s.requires64 (s.result r v)

/-- 1 or 0 (41:R233). -/
def setOn (c : Bool) : DWord := if c then 1 else 0

/-- ADDI (41:R231). -/
def execAddi (rs rt : Reg) (imm : BitVec 16) (s : State) : Host.Outcome State Fault Refusal :=
  let a := s.reg rs
  let b : Word32 := imm.signExtend 32
  s.wordResultOrOverflow rt (isWord a) (addOverflows (low32 a) b) (low32 a + b)

/-- ADDIU (41:R232). -/
def execAddiu (rs rt : Reg) (imm : BitVec 16) (s : State) : Host.Outcome State Fault Refusal :=
  s.wordResult rt (isWord (s.reg rs)) (low32 (s.reg rs) + imm.signExtend 32)

/-- SLTI (41:R233). -/
def execSlti (rs rt : Reg) (imm : BitVec 16) (s : State) : Host.Outcome State Fault Refusal :=
  s.result rt (setOn ((s.reg rs).slt (sextImm imm)))

/-- SLTIU (41:R234). -/
def execSltiu (rs rt : Reg) (imm : BitVec 16) (s : State) : Host.Outcome State Fault Refusal :=
  s.result rt (setOn ((s.reg rs).ult (sextImm imm)))

/-- ANDI (41:R235). -/
def execAndi (rs rt : Reg) (imm : BitVec 16) (s : State) : Host.Outcome State Fault Refusal :=
  s.result rt (s.reg rs &&& zextImm imm)

/-- ORI (41:R236). -/
def execOri (rs rt : Reg) (imm : BitVec 16) (s : State) : Host.Outcome State Fault Refusal :=
  s.result rt (s.reg rs ||| zextImm imm)

/-- XORI (41:R237). -/
def execXori (rs rt : Reg) (imm : BitVec 16) (s : State) : Host.Outcome State Fault Refusal :=
  s.result rt (s.reg rs ^^^ zextImm imm)

/-- LUI (41:R238). -/
def execLui (rt : Reg) (imm : BitVec 16) (s : State) : Host.Outcome State Fault Refusal :=
  s.result rt (luiImm imm)

/-- DADDI (41:R239). -/
def execDaddi (rs rt : Reg) (imm : BitVec 16) (s : State) : Host.Outcome State Fault Refusal :=
  s.dwordResultOrOverflow rt (addOverflows (s.reg rs) (sextImm imm)) (s.reg rs + sextImm imm)

/-- DADDIU (41:R240). -/
def execDaddiu (rs rt : Reg) (imm : BitVec 16) (s : State) : Host.Outcome State Fault Refusal :=
  s.dwordResult rt (s.reg rs + sextImm imm)

/-- ADD (41:R241). -/
def execAdd (rs rt rd : Reg) (s : State) : Host.Outcome State Fault Refusal :=
  let a := s.reg rs
  let b := s.reg rt
  s.wordResultOrOverflow rd (isWord a && isWord b) (addOverflows (low32 a) (low32 b)) (low32 a + low32 b)

/-- ADDU (41:R242). -/
def execAddu (rs rt rd : Reg) (s : State) : Host.Outcome State Fault Refusal :=
  s.wordResult rd (isWord (s.reg rs) && isWord (s.reg rt)) (low32 (s.reg rs) + low32 (s.reg rt))

/-- SUB (41:R243). -/
def execSub (rs rt rd : Reg) (s : State) : Host.Outcome State Fault Refusal :=
  let a := s.reg rs
  let b := s.reg rt
  s.wordResultOrOverflow rd (isWord a && isWord b) (subOverflows (low32 a) (low32 b)) (low32 a - low32 b)

/-- SUBU (41:R244). -/
def execSubu (rs rt rd : Reg) (s : State) : Host.Outcome State Fault Refusal :=
  s.wordResult rd (isWord (s.reg rs) && isWord (s.reg rt)) (low32 (s.reg rs) - low32 (s.reg rt))

/-- SLT (41:R245). -/
def execSlt (rs rt rd : Reg) (s : State) : Host.Outcome State Fault Refusal :=
  s.result rd (setOn ((s.reg rs).slt (s.reg rt)))

/-- SLTU (41:R246). -/
def execSltu (rs rt rd : Reg) (s : State) : Host.Outcome State Fault Refusal :=
  s.result rd (setOn ((s.reg rs).ult (s.reg rt)))

/-- AND (41:R247). -/
def execAnd (rs rt rd : Reg) (s : State) : Host.Outcome State Fault Refusal :=
  s.result rd (s.reg rs &&& s.reg rt)

/-- OR (41:R248). -/
def execOr (rs rt rd : Reg) (s : State) : Host.Outcome State Fault Refusal :=
  s.result rd (s.reg rs ||| s.reg rt)

/-- XOR (41:R249). -/
def execXor (rs rt rd : Reg) (s : State) : Host.Outcome State Fault Refusal :=
  s.result rd (s.reg rs ^^^ s.reg rt)

/-- NOR (41:R250). -/
def execNor (rs rt rd : Reg) (s : State) : Host.Outcome State Fault Refusal :=
  s.result rd (~~~(s.reg rs ||| s.reg rt))

/-- DADD (41:R251). -/
def execDadd (rs rt rd : Reg) (s : State) : Host.Outcome State Fault Refusal :=
  s.dwordResultOrOverflow rd (addOverflows (s.reg rs) (s.reg rt)) (s.reg rs + s.reg rt)

/-- DADDU (41:R252). -/
def execDaddu (rs rt rd : Reg) (s : State) : Host.Outcome State Fault Refusal :=
  s.dwordResult rd (s.reg rs + s.reg rt)

/-- DSUB (41:R253). -/
def execDsub (rs rt rd : Reg) (s : State) : Host.Outcome State Fault Refusal :=
  s.dwordResultOrOverflow rd (subOverflows (s.reg rs) (s.reg rt)) (s.reg rs - s.reg rt)

/-- DSUBU (41:R254). -/
def execDsubu (rs rt rd : Reg) (s : State) : Host.Outcome State Fault Refusal :=
  s.dwordResult rd (s.reg rs - s.reg rt)

/-- SLL (41:R255). -/
def execSll (rt rd : Reg) (sa : BitVec 5) (s : State) : Host.Outcome State Fault Refusal :=
  s.wordResult rd true (low32 (s.reg rt) <<< sa.toNat)

/-- SRL (41:R256). -/
def execSrl (rt rd : Reg) (sa : BitVec 5) (s : State) : Host.Outcome State Fault Refusal :=
  s.wordResult rd (isWord (s.reg rt)) (low32 (s.reg rt) >>> sa.toNat)

/-- SRA (41:R257). -/
def execSra (rt rd : Reg) (sa : BitVec 5) (s : State) : Host.Outcome State Fault Refusal :=
  s.wordResult rd (isWord (s.reg rt)) ((low32 (s.reg rt)).sshiftRight sa.toNat)

/-- SLLV (41:R258). -/
def execSllv (rs rt rd : Reg) (s : State) : Host.Outcome State Fault Refusal :=
  s.wordResult rd true (low32 (s.reg rt) <<< shiftAmount5 (s.reg rs))

/-- SRLV (41:R259). -/
def execSrlv (rs rt rd : Reg) (s : State) : Host.Outcome State Fault Refusal :=
  s.wordResult rd (isWord (s.reg rt)) (low32 (s.reg rt) >>> shiftAmount5 (s.reg rs))

/-- SRAV (41:R260). -/
def execSrav (rs rt rd : Reg) (s : State) : Host.Outcome State Fault Refusal :=
  s.wordResult rd (isWord (s.reg rt)) ((low32 (s.reg rt)).sshiftRight (shiftAmount5 (s.reg rs)))

/-- DSLL (41:R261). -/
def execDsll (rt rd : Reg) (sa : BitVec 5) (s : State) : Host.Outcome State Fault Refusal :=
  s.dwordResult rd (s.reg rt <<< sa.toNat)

/-- DSRL (41:R262). -/
def execDsrl (rt rd : Reg) (sa : BitVec 5) (s : State) : Host.Outcome State Fault Refusal :=
  s.dwordResult rd (s.reg rt >>> sa.toNat)

/-- DSRA (41:R263). -/
def execDsra (rt rd : Reg) (sa : BitVec 5) (s : State) : Host.Outcome State Fault Refusal :=
  s.dwordResult rd ((s.reg rt).sshiftRight sa.toNat)

/-- DSLLV (41:R264). -/
def execDsllv (rs rt rd : Reg) (s : State) : Host.Outcome State Fault Refusal :=
  s.dwordResult rd (s.reg rt <<< shiftAmount6 (s.reg rs))

/-- DSRLV (41:R265). -/
def execDsrlv (rs rt rd : Reg) (s : State) : Host.Outcome State Fault Refusal :=
  s.dwordResult rd (s.reg rt >>> shiftAmount6 (s.reg rs))

/-- DSRAV (41:R266). -/
def execDsrav (rs rt rd : Reg) (s : State) : Host.Outcome State Fault Refusal :=
  s.dwordResult rd ((s.reg rt).sshiftRight (shiftAmount6 (s.reg rs)))

/-- DSLL32 (41:R267). -/
def execDsll32 (rt rd : Reg) (sa : BitVec 5) (s : State) : Host.Outcome State Fault Refusal :=
  s.dwordResult rd (s.reg rt <<< (sa.toNat + 32))

/-- DSRL32 (41:R268). -/
def execDsrl32 (rt rd : Reg) (sa : BitVec 5) (s : State) : Host.Outcome State Fault Refusal :=
  s.dwordResult rd (s.reg rt >>> (sa.toNat + 32))

/-- DSRA32 (41:R269). -/
def execDsra32 (rt rd : Reg) (sa : BitVec 5) (s : State) : Host.Outcome State Fault Refusal :=
  s.dwordResult rd ((s.reg rt).sshiftRight (sa.toNat + 32))

end Sys2Proof.Machine
end

