-- ==== Sys2Proof/Machine/Cp0Ops.lean ====
section
/-! DEFINITION. The CP0 instructions but for CACHE: register moves, TLB instructions, ERET (spec 45). -/

namespace Sys2Proof.Machine

/-- Runs a move that names a CP0 register that exists (10:R31, U1, log 33). -/
def namesCp0Register (rd : Reg) (k : Host.Outcome State Fault Refusal) : Host.Outcome State Fault Refusal :=
  if cp0Unused rd then .refused .reservedCp0Register else k

/-- Runs a doubleword move that names a register 64 bits wide (45:R363, R364, U16, log 33). -/
def namesWideCp0Register (rd : Reg) (k : Host.Outcome State Fault Refusal) : Host.Outcome State Fault Refusal :=
  namesCp0Register rd (if cp0Wide rd then k else .refused .cp0RegisterWidth)

/-- The value MTC0 writes: the upper half is open when the register is no word (45:R362, U15, log 21). -/
def State.mtc0Value (v : DWord) (s : State) : DWord :=
  if isWord v then v else s.freeBits .mtc0Upper 32 ++ low32 v

/-- MFC0 (45:R361). -/
def execMfc0 (rt rd : Reg) (s : State) : Host.Outcome State Fault Refusal :=
  s.requiresCp0 (namesCp0Register rd (.next (s.writeReg rt (sext32 (low32 (s.cp0Read rd))))))

/-- MTC0 (45:R362, R383). The write follows the decrement of Random, so that a write of Wired leaves Random 31. -/
def execMtc0 (rt rd : Reg) (s : State) : Host.Outcome State Fault Refusal :=
  s.requiresCp0 (namesCp0Register rd ((s.advance.cp0Write rd (s.mtc0Value (s.reg rt))).inDefinedMode))

/-- DMFC0 (45:R363). -/
def execDmfc0 (rt rd : Reg) (s : State) : Host.Outcome State Fault Refusal :=
  s.requiresCp0 (s.requires64 (namesWideCp0Register rd (.next (s.writeReg rt (s.cp0Read rd)))))

/-- DMTC0 (45:R364, R383). -/
def execDmtc0 (rt rd : Reg) (s : State) : Host.Outcome State Fault Refusal :=
  s.requiresCp0 (s.requires64 (namesWideCp0Register rd (.next (s.advance.cp0Write rd (s.reg rt)))))

/-- A page of an entry as EntryLo shows it (45:R365). -/
def TlbPage.toEntryLo (p : TlbPage) (g : Bool) : EntryLo := { pfn := p.pfn, c := p.c, d := p.d, v := p.v, g := g }

/-- A page of an entry from EntryLo (45:R366). -/
def EntryLo.toPage (x : EntryLo) : TlbPage := { pfn := x.pfn, c := x.c, d := x.d, v := x.v }

/-- The CP0 registers after TLBR of an entry (45:R365). -/
def Cp0.loadEntry (e : TlbEntry) (c : Cp0) : Cp0 :=
  { c with
    pageMask := e.mask
    entryHi := { r := e.r, vpn2 := e.vpn2, asid := e.asid }
    entryLo0 := e.even.toEntryLo e.g
    entryLo1 := e.odd.toEntryLo e.g }

/-- The entry TLBWI and TLBWR write (45:R366). -/
def Cp0.storedEntry (c : Cp0) : TlbEntry where
  mask := c.pageMask
  r := c.entryHi.r
  vpn2 := c.entryHi.vpn2
  g := c.entryLo0.g && c.entryLo1.g
  asid := c.entryHi.asid
  even := c.entryLo0.toPage
  odd := c.entryLo1.toPage

/-- A TLB entry by its number. -/
def State.tlbEntry (i : BitVec 5) (s : State) : TlbEntry := s.tlb[i.toNat]'i.isLt

/-- Replaces a TLB entry. -/
def State.setTlbEntry (i : BitVec 5) (e : TlbEntry) (s : State) : State :=
  { s with tlb := s.tlb.set i.toNat e i.isLt }

/-- `TLBwrite(i)` (45:R366); a MASK that is no page size has no meaning (U3, log 32). -/
def State.tlbWrite (i : BitVec 5) (s : State) : Host.Outcome State Fault Refusal :=
  if legalMask s.cp0.pageMask then .next (s.advance.setTlbEntry i s.cp0.storedEntry)
  else .refused .illegalPageMask

/-- TLBR (45:R365). -/
def execTlbr (s : State) : Host.Outcome State Fault Refusal :=
  s.requiresCp0 (.next (s.advance.mapCp0 (Cp0.loadEntry (s.tlbEntry s.cp0.index.index))))

/-- TLBWI (45:R366). -/
def execTlbwi (s : State) : Host.Outcome State Fault Refusal := s.requiresCp0 (s.tlbWrite s.cp0.index.index)

/-- TLBWR (45:R367). -/
def execTlbwr (s : State) : Host.Outcome State Fault Refusal := s.requiresCp0 (s.tlbWrite s.cp0.random)

/-- TLBP (45:R368); on a miss Index.Index is open (log 22), on several matches the TLB shuts down. -/
def execTlbp (s : State) : Host.Outcome State Fault Refusal :=
  s.requiresCp0 <|
    match s.tlbMatches s.cp0.entryHi.r s.cp0.entryHi.vpn2 with
    | [] => .next (s.advance.mapCp0 fun c => { c with index := { p := true, index := s.freeBits .tlbpIndex 5 } })
    | [i] => .next (s.advance.mapCp0 fun c => { c with index := { p := false, index := BitVec.ofFin i } })
    | _ => .next s.tlbShutdown

/-- ERET (45:R369). -/
def execEret (s : State) : Host.Outcome State Fault Refusal :=
  s.requiresCp0 (s.outsideSlot s.returnFromException.inDefinedMode)

end Sys2Proof.Machine
end

