-- ==== Sys2Proof/Machine/LoadStore.lean ====
section
/-! DEFINITION. The load and store instructions (spec 40). -/

namespace Sys2Proof.Machine

/-- `sext` or `zext` of the low `w` bits of a loaded value (00:R7). -/
def loadSigned (w : Nat) (v : DWord) : DWord := (v.extractLsb' 0 w).signExtend 64

/-- `zext` of the low `w` bits of a loaded value (00:R7). -/
def loadUnsigned (w : Nat) (v : DWord) : DWord := (v.extractLsb' 0 w).setWidth 64

/-- A load of `n` aligned bytes whose result is a function of the value read (40:R200 to R207). -/
def State.execLoad (base rt : Reg) (offset : BitVec 16) (n : Nat) (f : DWord → DWord) (s : State) :
    Host.Outcome State Fault Refusal :=
  ((s.load (s.effectiveAddress base offset) n).andThen fun v t => .ok () (t.writeReg rt (f v))).finish

/-- A load of some bytes around the effective address, merged with the old register (40:R208 to R211). -/
def State.execLoadPart (base rt : Reg) (offset : BitVec 16) (part : Bool → DWord → Part)
    (merge : Nat → DWord → DWord → DWord) (s : State) : Host.Outcome State Fault Refusal :=
  let va := s.effectiveAddress base offset
  let p := part s.bigEndianCpu va
  ((s.loadPart va p).andThen fun b t => .ok () (t.writeReg rt (merge p.count (t.reg rt) b))).finish

/-- A store of the low `n` bytes of a register at an aligned address (40:R212 to R215). -/
def State.execStore (base rt : Reg) (offset : BitVec 16) (n : Nat) (s : State) : Host.Outcome State Fault Refusal :=
  ((s.store (s.effectiveAddress base offset) n (s.reg rt)).andThen fun _ t => .ok () t.advance).finish

/-- A store of some bytes around the effective address (40:R216 to R219). -/
def State.execStorePart (base rt : Reg) (offset : BitVec 16) (part : Bool → DWord → Part)
    (value : Nat → DWord → DWord) (s : State) : Host.Outcome State Fault Refusal :=
  let va := s.effectiveAddress base offset
  let p := part s.bigEndianCpu va
  ((s.storePart va p (value p.count (s.reg rt))).andThen fun _ t => .ok () t.advance).finish

/-- LB (40:R201). -/
def execLb (base rt : Reg) (offset : BitVec 16) (s : State) : Host.Outcome State Fault Refusal :=
  s.execLoad base rt offset 1 (loadSigned 8)

/-- LBU (40:R202). -/
def execLbu (base rt : Reg) (offset : BitVec 16) (s : State) : Host.Outcome State Fault Refusal :=
  s.execLoad base rt offset 1 (loadUnsigned 8)

/-- LH (40:R203). -/
def execLh (base rt : Reg) (offset : BitVec 16) (s : State) : Host.Outcome State Fault Refusal :=
  s.execLoad base rt offset 2 (loadSigned 16)

/-- LHU (40:R204). -/
def execLhu (base rt : Reg) (offset : BitVec 16) (s : State) : Host.Outcome State Fault Refusal :=
  s.execLoad base rt offset 2 (loadUnsigned 16)

/-- LW (40:R205). -/
def execLw (base rt : Reg) (offset : BitVec 16) (s : State) : Host.Outcome State Fault Refusal :=
  s.execLoad base rt offset 4 (loadSigned 32)

/-- LWU (40:R206). -/
def execLwu (base rt : Reg) (offset : BitVec 16) (s : State) : Host.Outcome State Fault Refusal :=
  s.requires64 (s.execLoad base rt offset 4 (loadUnsigned 32))

/-- LD (40:R207). -/
def execLd (base rt : Reg) (offset : BitVec 16) (s : State) : Host.Outcome State Fault Refusal :=
  s.requires64 (s.execLoad base rt offset 8 id)

/-- The register after LWL: the merged word, sign-extended (40:R208). -/
def mergeLwl (n : Nat) (old b : DWord) : DWord := sext32 (low32 (mergeLeft 4 n old b))

/-- The register after LWR; when bit 31 is not loaded and the old value was no word, whether the upper half is kept or
sign-extended is the open choice `extend` (40:R209, U10, log 20). -/
def mergeLwr (extend : Bool) (n : Nat) (old b : DWord) : DWord :=
  let t := low32 (mergeRight n (low32 old |>.setWidth 64) b)
  if n = 4 || isWord old || extend then sext32 t else high32 old ++ t

/-- LWL (40:R208). -/
def execLwl (base rt : Reg) (offset : BitVec 16) (s : State) : Host.Outcome State Fault Refusal :=
  s.execLoadPart base rt offset (leftPart 4) mergeLwl

/-- LWR (40:R209). -/
def execLwr (base rt : Reg) (offset : BitVec 16) (s : State) : Host.Outcome State Fault Refusal :=
  s.execLoadPart base rt offset (rightPart 4) (mergeLwr (s.freeBit .lwrExtends))

/-- LDL (40:R210). -/
def execLdl (base rt : Reg) (offset : BitVec 16) (s : State) : Host.Outcome State Fault Refusal :=
  s.requires64 (s.execLoadPart base rt offset (leftPart 8) (mergeLeft 8))

/-- LDR (40:R211). -/
def execLdr (base rt : Reg) (offset : BitVec 16) (s : State) : Host.Outcome State Fault Refusal :=
  s.requires64 (s.execLoadPart base rt offset (rightPart 8) mergeRight)

/-- SB (40:R212). -/
def execSb (base rt : Reg) (offset : BitVec 16) (s : State) : Host.Outcome State Fault Refusal :=
  s.execStore base rt offset 1

/-- SH (40:R213). -/
def execSh (base rt : Reg) (offset : BitVec 16) (s : State) : Host.Outcome State Fault Refusal :=
  s.execStore base rt offset 2

/-- SW (40:R214). -/
def execSw (base rt : Reg) (offset : BitVec 16) (s : State) : Host.Outcome State Fault Refusal :=
  s.execStore base rt offset 4

/-- SD (40:R215). -/
def execSd (base rt : Reg) (offset : BitVec 16) (s : State) : Host.Outcome State Fault Refusal :=
  s.requires64 (s.execStore base rt offset 8)

/-- The most significant `n` bytes of the low word (40:R216). -/
def swlValue (n : Nat) (v : DWord) : DWord := (low32 v).setWidth 64 >>> (8 * (4 - n))

/-- The most significant `n` bytes of the doubleword (40:R218). -/
def sdlValue (n : Nat) (v : DWord) : DWord := v >>> (8 * (8 - n))

/-- The least significant bytes, which are the ones a store of `n` bytes takes (40:R217, R219). -/
def storeRightValue (_n : Nat) (v : DWord) : DWord := v

/-- SWL (40:R216). -/
def execSwl (base rt : Reg) (offset : BitVec 16) (s : State) : Host.Outcome State Fault Refusal :=
  s.execStorePart base rt offset (leftPart 4) swlValue

/-- SWR (40:R217). -/
def execSwr (base rt : Reg) (offset : BitVec 16) (s : State) : Host.Outcome State Fault Refusal :=
  s.execStorePart base rt offset (rightPart 4) storeRightValue

/-- SDL (40:R218). -/
def execSdl (base rt : Reg) (offset : BitVec 16) (s : State) : Host.Outcome State Fault Refusal :=
  s.requires64 (s.execStorePart base rt offset (leftPart 8) sdlValue)

/-- SDR (40:R219). -/
def execSdr (base rt : Reg) (offset : BitVec 16) (s : State) : Host.Outcome State Fault Refusal :=
  s.requires64 (s.execStorePart base rt offset (rightPart 8) storeRightValue)

end Sys2Proof.Machine
end

