-- ==== Sys2Proof/Machine/MulDiv.lean ====
section
/-! DEFINITION. Multiply, divide, the HI/LO moves and the sum-of-products instructions (spec 42). Every write of HI or LO
first applies the hazard of 70:R470 to the registers just read from them. -/

namespace Sys2Proof.Machine

/-- Values for HI and LO. -/
structure HiLo where
  hi : DWord
  lo : DWord
  deriving DecidableEq, Repr

/-- The open values of HI and LO (U11, U12, U19; log 16 to 18). -/
def State.openHiLo (s : State) : HiLo := { hi := s.freeWord .hiResult, lo := s.freeWord .loResult }

/-- Two words as HI and LO, each sign-extended (42:R281). -/
def HiLo.ofWords (hi lo : Word32) : HiLo := { hi := sext32 hi, lo := sext32 lo }

/-- A multiply or divide: HI and LO from the two operands, or open values (42:R280). The operands are read after the hazard
has taken its effect. -/
def State.execHiLo (rs rt : Reg) (cycles : Nat) (f : DWord → DWord → Option HiLo) (s : State) :
    Host.Outcome State Fault Refusal :=
  let t := s.hiLoHazard
  let v := (f (t.reg rs) (t.reg rt)).getD t.openHiLo
  .next (t.writeHiLo v.hi v.lo cycles)

/-- A 32-bit multiply or divide: open values where an operand is no word (41:R230, U11). -/
def wordOperation (f : Word32 → Word32 → Option HiLo) (a b : DWord) : Option HiLo :=
  if isWord a && isWord b then f (low32 a) (low32 b) else none

/-- The product of two signed words (42:R281). -/
def multWord (a b : Word32) : Option HiLo :=
  let p := BitVec.ofInt 64 (a.toInt * b.toInt)
  some (HiLo.ofWords (high32 p) (low32 p))

/-- The product of two unsigned words (42:R282). -/
def multuWord (a b : Word32) : Option HiLo :=
  let p := BitVec.ofNat 64 (a.toNat * b.toNat)
  some (HiLo.ofWords (high32 p) (low32 p))

/-- Quotient to zero and remainder of two signed values, none for the corners of 42:R297. -/
def signedDivide (w : Nat) (a b : Int) : Option (BitVec w × BitVec w) :=
  if b = 0 ∨ (a = -(2 : Int) ^ (w - 1) ∧ b = -1) then none
  else some (BitVec.ofInt w (a.tdiv b), BitVec.ofInt w (a.tmod b))

/-- Quotient and remainder of two unsigned values, none for a divisor of 0 (42:R297). -/
def unsignedDivide (w : Nat) (a b : Nat) : Option (BitVec w × BitVec w) :=
  if b = 0 then none else some (BitVec.ofNat w (a / b), BitVec.ofNat w (a % b))

/-- The quotient goes to LO and the remainder to HI, as words (42:R283, R284). -/
def HiLo.ofWordQuotient (q : Word32 × Word32) : HiLo := HiLo.ofWords q.2 q.1

/-- The quotient goes to LO and the remainder to HI (42:R287, R288). -/
def HiLo.ofQuotient (q : DWord × DWord) : HiLo := { hi := q.2, lo := q.1 }

/-- The 128-bit product of two signed doublewords (42:R285). -/
def multDword (a b : DWord) : Option HiLo :=
  let p := BitVec.ofInt 128 (a.toInt * b.toInt)
  some { hi := p.extractLsb' 64 64, lo := p.extractLsb' 0 64 }

/-- The 128-bit product of two unsigned doublewords (42:R286). -/
def multuDword (a b : DWord) : Option HiLo :=
  let p := BitVec.ofNat 128 (a.toNat * b.toNat)
  some { hi := p.extractLsb' 64 64, lo := p.extractLsb' 0 64 }

/-- MULT (42:R281). -/
def execMult (rs rt : Reg) (s : State) : Host.Outcome State Fault Refusal :=
  s.execHiLo rs rt 1 (wordOperation multWord)

/-- MULTU (42:R282). -/
def execMultu (rs rt : Reg) (s : State) : Host.Outcome State Fault Refusal :=
  s.execHiLo rs rt 1 (wordOperation multuWord)

/-- DIV (42:R283). -/
def execDiv (rs rt : Reg) (s : State) : Host.Outcome State Fault Refusal :=
  s.execHiLo rs rt 35 (wordOperation fun a b => (signedDivide 32 a.toInt b.toInt).map HiLo.ofWordQuotient)

/-- DIVU (42:R284). -/
def execDivu (rs rt : Reg) (s : State) : Host.Outcome State Fault Refusal :=
  s.execHiLo rs rt 35 (wordOperation fun a b => (unsignedDivide 32 a.toNat b.toNat).map HiLo.ofWordQuotient)

/-- DMULT (42:R285). -/
def execDmult (rs rt : Reg) (s : State) : Host.Outcome State Fault Refusal :=
  s.requires64 (s.execHiLo rs rt 4 multDword)

/-- DMULTU (42:R286). -/
def execDmultu (rs rt : Reg) (s : State) : Host.Outcome State Fault Refusal :=
  s.requires64 (s.execHiLo rs rt 4 multuDword)

/-- DDIV (42:R287). -/
def execDdiv (rs rt : Reg) (s : State) : Host.Outcome State Fault Refusal :=
  s.requires64 (s.execHiLo rs rt 67 fun a b => (signedDivide 64 a.toInt b.toInt).map HiLo.ofQuotient)

/-- DDIVU (42:R288). -/
def execDdivu (rs rt : Reg) (s : State) : Host.Outcome State Fault Refusal :=
  s.requires64 (s.execHiLo rs rt 67 fun a b => (unsignedDivide 64 a.toNat b.toNat).map HiLo.ofQuotient)

/-- MFHI (42:R289). -/
def execMfhi (rd : Reg) (s : State) : Host.Outcome State Fault Refusal := .next (s.readHiLo rd s.hi)

/-- MFLO (42:R291). -/
def execMflo (rd : Reg) (s : State) : Host.Outcome State Fault Refusal := .next (s.readHiLo rd s.lo)

/-- MTHI (42:R290), which waits for the unit (42:R295); LO is unchanged (D17). -/
def execMthi (rs : Reg) (s : State) : Host.Outcome State Fault Refusal :=
  let t := s.hiLoHazard
  .next (t.writeHiLo (t.reg rs) t.lo 0)

/-- MTLO (42:R292), which waits for the unit (42:R295); HI is unchanged (D17). -/
def execMtlo (rs : Reg) (s : State) : Host.Outcome State Fault Refusal :=
  let t := s.hiLoHazard
  .next (t.writeHiLo t.hi (t.reg rs) 0)

/-- The accumulator of MADD16 plus the product of two 16-bit values (42:R293). -/
def madd16 (hi lo a b : DWord) : Option HiLo :=
  if is16 a && is16 b then
    let p := BitVec.ofInt 64 (a.toInt * b.toInt + ((low32 hi ++ low32 lo : DWord)).toInt)
    some (HiLo.ofWords (high32 p) (low32 p))
  else none

/-- LO plus the product of two 16-bit values; HI is open (42:R294, D15, log 18). -/
def dmadd16 (hi lo a b : DWord) : Option HiLo :=
  if is16 a && is16 b then some { hi := hi, lo := BitVec.ofInt 64 (a.toInt * b.toInt + lo.toInt) } else none

/-- MADD16 (42:R293). -/
def execMadd16 (rs rt : Reg) (s : State) : Host.Outcome State Fault Refusal :=
  s.execHiLo rs rt 1 (madd16 s.hi s.lo)

/-- DMADD16 (42:R294). -/
def execDmadd16 (rs rt : Reg) (s : State) : Host.Outcome State Fault Refusal :=
  s.requires64 (s.execHiLo rs rt 1 (dmadd16 (s.freeWord .hiResult) s.lo))

end Sys2Proof.Machine
end

