-- ==== Sys2Proof/Machine/Power.lean ====
section
/-! DEFINITION. The power mode instructions (spec 46) and the exit from the power modes (60:R450). -/

namespace Sys2Proof.Machine

/-- The instruction completes, then the power mode changes (46:R390 to R392). -/
def State.enterPowerMode (m : PowerMode) (s : State) : Host.Outcome State Fault Refusal :=
  s.requiresCp0 (.next { s.advance with powerMode := m })

/-- STANDBY (46:R390). -/
def execStandby (s : State) : Host.Outcome State Fault Refusal := s.enterPowerMode .standby

/-- SUSPEND (46:R391). -/
def execSuspend (s : State) : Host.Outcome State Fault Refusal := s.enterPowerMode .suspend

/-- HIBERNATE (46:R392). -/
def execHibernate (s : State) : Host.Outcome State Fault Refusal := s.enterPowerMode .hibernate

/-- `WakeRequest` (60:R450): an enabled pending interrupt; whether a masked one wakes too is the open parameter
WakeOnMaskedInterrupt (D18, log 10). -/
def State.wakeRequest (s : State) : Bool :=
  s.interruptPending || (s.causeIp != 0 && Config.wakeOnMaskedInterrupt)

/-- A step in Standby or Suspend (60:R450). -/
def State.sleepStep (s : State) : State :=
  if s.coldReset then s.takeColdReset
  else if s.softReset then s.takeSoftReset
  else if s.nmiPending then s.takeNmi
  else if s.wakeRequest then { s with powerMode := .fullspeed }
  else s

/-- A step in Hibernate (60:R450): only a cold reset is seen. -/
def State.hibernateStep (s : State) : State :=
  if s.coldReset then s.takeColdReset else s

end Sys2Proof.Machine
end

