-- ==== Sys2Proof/Machine/Trap.lean ====
section
/-! DEFINITION. SYSCALL, BREAK, SYNC, the trap instructions, and the instructions the VR4100 does not provide (spec 44). -/

namespace Sys2Proof.Machine

/-- A trap instruction (44:R355): Tr if the condition holds, else nothing. -/
def State.trapIf (c : Bool) (s : State) : Host.Outcome State Fault Refusal :=
  if c then s.raise .tr else .next s.advance

/-- SYSCALL (44:R330); the code is not delivered anywhere. -/
def execSyscall (_code : BitVec 20) (s : State) : Host.Outcome State Fault Refusal := s.raise .sys

/-- BREAK (44:R331). -/
def execBrk (_code : BitVec 20) (s : State) : Host.Outcome State Fault Refusal := s.raise .bp

/-- SYNC: a NOP (44:R332). -/
def execSync (s : State) : Host.Outcome State Fault Refusal := .next s.advance

/-- TGE (44:R333). -/
def execTge (rs rt : Reg) (_code : BitVec 10) (s : State) : Host.Outcome State Fault Refusal :=
  s.trapIf (!(s.reg rs).slt (s.reg rt))

/-- TGEU (44:R334). -/
def execTgeu (rs rt : Reg) (_code : BitVec 10) (s : State) : Host.Outcome State Fault Refusal :=
  s.trapIf (!(s.reg rs).ult (s.reg rt))

/-- TLT (44:R335). -/
def execTlt (rs rt : Reg) (_code : BitVec 10) (s : State) : Host.Outcome State Fault Refusal :=
  s.trapIf ((s.reg rs).slt (s.reg rt))

/-- TLTU (44:R336). -/
def execTltu (rs rt : Reg) (_code : BitVec 10) (s : State) : Host.Outcome State Fault Refusal :=
  s.trapIf ((s.reg rs).ult (s.reg rt))

/-- TEQ (44:R337). -/
def execTeq (rs rt : Reg) (_code : BitVec 10) (s : State) : Host.Outcome State Fault Refusal :=
  s.trapIf (s.reg rs == (s.reg rt))

/-- TNE (44:R338). -/
def execTne (rs rt : Reg) (_code : BitVec 10) (s : State) : Host.Outcome State Fault Refusal :=
  s.trapIf (s.reg rs != (s.reg rt))

/-- TGEI (44:R339). -/
def execTgei (rs : Reg) (imm : BitVec 16) (s : State) : Host.Outcome State Fault Refusal :=
  s.trapIf (!(s.reg rs).slt (sextImm imm))

/-- TGEIU (44:R340). -/
def execTgeiu (rs : Reg) (imm : BitVec 16) (s : State) : Host.Outcome State Fault Refusal :=
  s.trapIf (!(s.reg rs).ult (sextImm imm))

/-- TLTI (44:R341). -/
def execTlti (rs : Reg) (imm : BitVec 16) (s : State) : Host.Outcome State Fault Refusal :=
  s.trapIf ((s.reg rs).slt (sextImm imm))

/-- TLTIU (44:R342). -/
def execTltiu (rs : Reg) (imm : BitVec 16) (s : State) : Host.Outcome State Fault Refusal :=
  s.trapIf ((s.reg rs).ult (sextImm imm))

/-- TEQI (44:R343). -/
def execTeqi (rs : Reg) (imm : BitVec 16) (s : State) : Host.Outcome State Fault Refusal :=
  s.trapIf (s.reg rs == (sextImm imm))

/-- TNEI (44:R344). -/
def execTnei (rs : Reg) (imm : BitVec 16) (s : State) : Host.Outcome State Fault Refusal :=
  s.trapIf (s.reg rs != (sextImm imm))

/-- LL: not provided, RI (44:R345, R356). -/
def execLl (_base _rt : Reg) (_offset : BitVec 16) (s : State) : Host.Outcome State Fault Refusal := s.raise .ri

/-- SC: not provided, RI (44:R346, R356). -/
def execSc (_base _rt : Reg) (_offset : BitVec 16) (s : State) : Host.Outcome State Fault Refusal := s.raise .ri

/-- LLD: not provided, RI (44:R347, R356). -/
def execLld (_base _rt : Reg) (_offset : BitVec 16) (s : State) : Host.Outcome State Fault Refusal := s.raise .ri

/-- SCD: not provided, RI (44:R348, R356). -/
def execScd (_base _rt : Reg) (_offset : BitVec 16) (s : State) : Host.Outcome State Fault Refusal := s.raise .ri

/-- LWC1: not provided, RI (44:R350, R356). -/
def execLwc1 (_base _rt : Reg) (_offset : BitVec 16) (s : State) : Host.Outcome State Fault Refusal := s.raise .ri

/-- SWC1: not provided, RI (44:R351, R356). -/
def execSwc1 (_base _rt : Reg) (_offset : BitVec 16) (s : State) : Host.Outcome State Fault Refusal := s.raise .ri

/-- LDC1: not provided, RI (44:R352, R356). -/
def execLdc1 (_base _rt : Reg) (_offset : BitVec 16) (s : State) : Host.Outcome State Fault Refusal := s.raise .ri

/-- SDC1: not provided, RI (44:R353, R356). -/
def execSdc1 (_base _rt : Reg) (_offset : BitVec 16) (s : State) : Host.Outcome State Fault Refusal := s.raise .ri

/-- LWC2: not provided, RI (44:R354, R356). -/
def execLwc2 (_base _rt : Reg) (_offset : BitVec 16) (s : State) : Host.Outcome State Fault Refusal := s.raise .ri

/-- SWC2: not provided, RI (44:R354, R356). -/
def execSwc2 (_base _rt : Reg) (_offset : BitVec 16) (s : State) : Host.Outcome State Fault Refusal := s.raise .ri

/-- LDC2: not provided, RI (44:R354, R356). -/
def execLdc2 (_base _rt : Reg) (_offset : BitVec 16) (s : State) : Host.Outcome State Fault Refusal := s.raise .ri

/-- SDC2: not provided, RI (44:R354, R356). -/
def execSdc2 (_base _rt : Reg) (_offset : BitVec 16) (s : State) : Host.Outcome State Fault Refusal := s.raise .ri

/-- COP1: not provided, RI (44:R349, R356). -/
def execCop1 (_cofun : BitVec 26) (s : State) : Host.Outcome State Fault Refusal := s.raise .ri

/-- COP2: not provided, RI (44:R354, R356). -/
def execCop2 (_cofun : BitVec 26) (s : State) : Host.Outcome State Fault Refusal := s.raise .ri

/-- COP3: not provided, RI (44:R354, R356). -/
def execCop3 (_cofun : BitVec 26) (s : State) : Host.Outcome State Fault Refusal := s.raise .ri

end Sys2Proof.Machine
end

