-- ==== Sys2Proof/Machine/Environment.lean ====
section
/-! DEFINITION. What happens between two steps (60:R401): Count advances (60:R440) and the environment acts (00:R9). -/

namespace Sys2Proof.Machine

/-- Count runs in every power mode but Hibernate; every value it passes counts for the comparison (60:R440, 46:R393). The
distance is open (log 14). -/
def State.advanceCount (s : State) : State :=
  if s.powerMode = .hibernate then s
  else
    let n := Config.countAdvance s.freeCount
    { s.mapCp0 fun c => { c with count := c.count + BitVec.ofNat 32 n } with
      timerPending := s.timerPending || countReaches s.cp0.count s.cp0.compare n }

/-- The interrupt register after an external write request: bit n takes data bit n where data bit 16 + n is 1 (60:R420). -/
def interruptRegisterWrite (data : Word32) (reg : BitVec 5) : BitVec 5 :=
  (reg &&& ~~~data.extractLsb' 16 5) ||| (data.extractLsb' 0 5 &&& data.extractLsb' 16 5)

/-- An external write request (20:R153): the interrupt register, and NMI where bit 22 enables bit 6 (log 41). It is not seen
when TClock stands still (46:R391, R392, log 52). An error indication or wrong parity in its data cycle (20:R151, R157) has no
effect, and the data counts as it stands (DESIGN CHOICE, log 41): 20:R154 speaks of response data only. -/
def State.externalWrite (data : Word32) (s : State) : State :=
  if s.powerMode = .suspend ∨ s.powerMode = .hibernate then s
  else
    { s with
      intReg := interruptRegisterWrite data s.intReg
      nmiPending := s.nmiPending || (data.getLsbD 22 && data.getLsbD 6) }

/-- An address put on a list of addresses, or taken off it. -/
def setPresent {n : Nat} (w : BitVec n) (present : Bool) (ws : List (BitVec n)) : List (BitVec n) :=
  if present then (if ws.contains w then ws else w :: ws) else ws.filter (· != w)

/-- One act of the environment (60:R401). In Hibernate NMI and soft reset are not seen (60:R450, log 52). -/
def State.applyEvent (s : State) (e : EnvEvent) : State :=
  match e with
  | .setIntPins asserted => { s with intPins := asserted }
  | .externalWrite data => s.externalWrite data
  | .nmiPin => if s.powerMode = .hibernate then s else { s with nmiPending := true }
  | .softResetPin => if s.powerMode = .hibernate then s else { s with softReset := true }
  | .coldResetPins => { s with coldReset := true }
  | .setPins pins => { s with pins := pins }
  | .agentWrite addr byte => { s with mem := s.mem.write addr byte }
  | .setBusError word present => { s with busErrors := setPresent word present s.busErrors }
  | .setBadParity byte present => { s with badParity := setPresent byte present s.badParity }
  | .setNoResponse word present => { s with noResponse := setPresent word present s.noResponse }
  | .setUnchecked word present => { s with unchecked := setPresent word present s.unchecked }

/-- The gap after a step: Count, then the environment's next batch of acts; a new set of open values begins (log 12, 13). -/
def State.betweenSteps (s : State) : State :=
  let t := s.advanceCount
  let u := (t.inputs.headD []).foldl State.applyEvent t
  { u with inputs := s.inputs.tail, freeCount := s.freeCount + 1 }

end Sys2Proof.Machine
end

