-- ==== Sys2Proof/Machine/Cycle.lean ====
section
/-! DEFINITION. One step of the machine without the gap that follows it (60:R401, R450), and the placing of a word where the
next fetch finds it. -/

namespace Sys2Proof.Machine

/-- Major opcodes that need CP0: COP0 and CACHE, also for encodings that name no instruction (45:R360). -/
def needsCp0 (w : Word32) : Bool := w.extractLsb' 26 6 == 0x10 || w.extractLsb' 26 6 == 0x2F

/-- What a word that is no instruction does (30:R170, R171, 45:R360; log 34). -/
def State.undecodable (w : Word32) (e : DecodeError) (s : State) : Host.Outcome State Fault Refusal :=
  if needsCp0 w && !s.cp0Usable then s.raise (.cpU 0)
  else match e with
    | .reserved => s.raise .ri
    | .undefinedCop0 => .refused .undefinedCop0
    | .undefinedCacheOp => .refused .undefinedCacheOp
    | .nonZeroField => .refused .nonZeroField

/-- What a fetched word does. -/
def State.execWord (w : Word32) (s : State) : Host.Outcome State Fault Refusal :=
  match decode w with
  | .ok i => exec i s
  | .error e => s.undecodable w e

/-- Fetch, decode and the instruction's rule (60:R401). An instruction cache line that the fetch filled (20:R143) stays filled where
the instruction then raises an exception: 60:R402 leaves that open (DESIGN CHOICE, log 56). -/
def State.runInstruction (s : State) : Host.Outcome State Fault Refusal :=
  match s.fetch s.pc with
  | .ok w t => s.settleHazard (t.execWord w)
  | .raise e t => t.raise e
  | .shutdown t => .next t.tlbShutdown
  | .hang t => .next t.hangUp
  | .refuse r => .refused r
  | .fault f => .fault f

/-- The instruction, or the interrupt that was pending at the start of the step: it loses against an exception of the
instruction, and otherwise discards the instruction's effects (60:R401, log 42). -/
def State.ordinaryStep (s : State) : Host.Outcome State Fault Refusal :=
  if s.interruptPending then
    match s.runInstruction with
    | .next t => if t.trapped then .next t else s.raise .int
    | _ => s.raise .int
  else s.runInstruction

/-- The general register an instruction of more than one cycle writes, or one that can wait: loads, MFHI and MFLO (70:R482),
CP0 reads, which can slip (70:R481; log 47). -/
def multiCycleDestination (i : Instr) : Option Reg :=
  match i with
  | .lb _ rt _ | .lbu _ rt _ | .lh _ rt _ | .lhu _ rt _ | .lw _ rt _ | .lwu _ rt _ | .ld _ rt _ => some rt
  | .lwl _ rt _ | .lwr _ rt _ | .ldl _ rt _ | .ldr _ rt _ | .mfc0 rt _ | .dmfc0 rt _ => some rt
  | .mfhi rd | .mflo rd => some rd
  | _ => none

/-- The multiply, divide and sum-of-products instructions (42:R295). -/
def usesMultiplier (i : Instr) : Bool :=
  match i with
  | .mult .. | .multu .. | .div .. | .divu .. | .dmult .. | .dmultu .. | .ddiv .. | .ddivu .. | .madd16 .. | .dmadd16 .. => true
  | _ => false

/-- The state with what an instruction that ends in `t`, and that a soft reset aborts, may have done to memory; the caches are
retained (10:R80). -/
def State.abortedStore (s t : State) : State :=
  let words := s.freeWord .memoryOnReset
  { s with mem := s.mem.receive t.mem fun a => words.getLsbD ((wordOf a).toNat % 64) }

/-- The state that a soft reset finds while an instruction runs that would end in `o`: the result of the instruction is open,
and what it stores may or may not have reached memory (60:R412, U21, log 47). -/
def State.abortedBy (i : Instr) (o : Host.Outcome State Fault Refusal) (s : State) : State :=
  let t := match o with
    | .next t => s.abortedStore t
    | _ => s
  let u := t.forget (multiCycleDestination i).toList fun _ => .destinationOnReset
  if usesMultiplier i then { u with hi := s.freeWord .hiOnReset, lo := s.freeWord .loOnReset } else u

/-- The state that a soft reset finds: the instruction at pc may have begun (60:R412, log 47). -/
def State.abortInstruction (s : State) : State :=
  if s.cp0.status.ts || !s.freeBit .resetAborts then s
  else match s.fetch s.pc with
    | .ok w t =>
      match decode w with
      | .ok i => s.abortedBy i (exec i t)
      | .error _ => s
    | _ => s

/-- A step in Fullspeed (60:R401): resets first, then NMI. A machine stuck in a hang (20:R154, log 54) or by TLB shutdown (10:R72,
U4; log 28) takes resets only. A state with TS = 1 that is not stuck, which no step leads to, takes NMI (95 section 2.11). -/
def State.fullspeedStep (s : State) : Host.Outcome State Fault Refusal :=
  if s.coldReset then .next s.takeColdReset
  else if s.softReset then .next s.abortInstruction.takeSoftReset
  else if s.hung then .next s
  else if s.nmiPending then .next s.takeNmi
  else if s.cp0.status.ts then .next s
  else if s.mode = .undefined then .refused .undefinedMode
  else s.ordinaryStep

/-- A step without the gap that follows it (60:R401, R450). -/
def State.cycle (s : State) : Host.Outcome State Fault Refusal :=
  match s.powerMode with
  | .fullspeed => s.fullspeedStep
  | .standby => .next s.sleepStep
  | .suspend => .next s.sleepStep
  | .hibernate => .next s.hibernateStep

/-- The gap follows a step that leaves a state. -/
def State.thenGap (o : Host.Outcome State Fault Refusal) : Host.Outcome State Fault Refusal :=
  match o with
  | .next s => .next s.betweenSteps
  | .fault f => .fault f
  | .refused r => .refused r

/-- The four bytes of a word, in rising address order, in a byte order (20:R110). -/
def bytesOfWord (bigEndian : Bool) (w : Word32) : List Byte :=
  disassemble bigEndian 4 (w.setWidth 64)

/-- The addresses of the four bytes of the word at a physical address. -/
def wordAddresses (pa : PAddr) : List PAddr := [pa, pa + 1, pa + 2, pa + 3]

/-- An instruction cache line with a word replaced and its parities right. -/
def ICacheLine.placeWord (pa : PAddr) (bytes : List Byte) (l : ICacheLine) : ICacheLine :=
  let data := ((wordAddresses pa).zip bytes).foldl
    (fun d w => d.set (lineOffset w.1).toNat w.2 (lineOffset w.1).isLt) l.data
  let m : ICacheLine := { l with data := data, p := evenParity l.ptag }
  { m with dataP := wordParities m }

/-- Stores a word where the fetch at `pc` finds it (log 5): in the instruction cache line that holds it, or in external
memory, whose response then carries no error. -/
def State.placeWord (w : Word32) (s : State) : State :=
  match s.translate s.pc .fetch with
  | .ok tr _ =>
    let bytes := bytesOfWord s.cp0.config.be w
    let l := s.iLine (iIndex s.pc)
    let t :=
      if tr.cached && l.hit tr.pa then s.setILine (iIndex s.pc) (l.placeWord tr.pa bytes)
      else
        (if tr.cached then s.setILine (iIndex s.pc) { l with p := evenParity l.ptag } else s).mapMem fun m =>
          m.writeAll ((wordAddresses tr.pa).zip bytes)
    { t with
      busErrors := t.busErrors.filter fun w => !lineHasWord (lineOf tr.pa) w
      badParity := t.badParity.filter fun a => lineOf a != lineOf tr.pa
      noResponse := t.noResponse.filter fun w => !lineHasWord (lineOf tr.pa) w }
  | _ => s

end Sys2Proof.Machine
end

