-- ==== Sys2Proof/Machine/Step.lean ====
section
/-! DEFINITION. The step of the machine (spec 60:R401), and the host's way of placing an instruction. -/

namespace Sys2Proof.Machine

/-- One step: an instruction, an exception, a reset or a wait, then the gap in which Count advances and the environment
acts (60:R401). -/
def step (s : State) : Host.Outcome State Fault Refusal := State.thenGap s.cycle

/-- The state with an instruction stored where the next step fetches: its low `nbits` bits are those of `w`, the others
zero (log 5). -/
def State.withFetchWord (s : State) (nbits w : Nat) : State := s.placeWord (BitVec.ofNat 32 (w % 2 ^ nbits))

end Sys2Proof.Machine
end

