-- ==== Sys2Proof/Safety.lean ====
section
/-! DEFINITION. The terms the statements use: the invariants of the machine, what an instruction leaves unchanged, and the
conditions under which an access is answered without an error. -/

namespace Sys2Proof.Machine

/-- The invariant of the processor: Random stays in its range (10:R33), every TLB entry has a legal page size (10:R36), Status
names an operating mode (60:R430), and outside a delay slot the next instruction follows (10:R25). -/
structure State.CpuInv (s : State) : Prop where
  randomInRange : s.cp0.wired ≤ s.cp0.random
  legalMasks : ∀ i : Fin 32, legalMask (s.tlb[i]).mask = true
  definedMode : s.mode ≠ .undefined
  sequential : s.ds = false → s.npc = s.pc + 4

/-- The machine runs instructions: no reset or NMI is waiting, the TLB is not shut down, no read hangs, and Status names a mode
(60:R401). -/
structure State.Runs (s : State) : Prop where
  fullspeed : s.powerMode = .fullspeed
  noColdReset : s.coldReset = false
  noSoftReset : s.softReset = false
  noNmi : s.nmiPending = false
  noShutdown : s.cp0.status.ts = false
  noHang : s.hung = false
  definedMode : s.mode ≠ .undefined

/-- Completion of an instruction that is no jump or branch: where the pc goes (10:R25) and Random (10:R33). -/
structure Advances (s t : State) : Prop where
  pc : t.pc = s.npc
  npc : t.npc = s.npc + 4
  ds : t.ds = false
  random : t.cp0.random = nextRandom s.cp0.random s.cp0.wired

/-- Every CP0 register but Random, the TLB, the power mode, the interrupt and reset inputs and the environment are unchanged. -/
structure KeepsControl (s t : State) : Prop where
  cp0 : t.cp0 = { s.cp0 with random := t.cp0.random }
  tlb : t.tlb = s.tlb
  powerMode : t.powerMode = s.powerMode
  timerPending : t.timerPending = s.timerPending
  nmiPending : t.nmiPending = s.nmiPending
  softReset : t.softReset = s.softReset
  coldReset : t.coldReset = s.coldReset
  intPins : t.intPins = s.intPins
  intReg : t.intReg = s.intReg
  pins : t.pins = s.pins
  busErrors : t.busErrors = s.busErrors
  badParity : t.badParity = s.badParity
  noResponse : t.noResponse = s.noResponse
  unchecked : t.unchecked = s.unchecked
  hung : t.hung = s.hung
  busParityOff : t.busParityOff = s.busParityOff
  inputs : t.inputs = s.inputs

/-- External memory and both caches are unchanged, so every byte reads as before. -/
structure KeepsMemory (s t : State) : Prop where
  mem : t.mem = s.mem
  icache : t.icache = s.icache
  dcache : t.dcache = s.dcache
  bytes : ∀ a, t.byteAt a = s.byteAt a

/-- Every general register but the listed ones is unchanged. -/
def KeepsRegs (except : List Reg) (s t : State) : Prop :=
  ∀ r, r ∉ except → t.reg r = s.reg r

/-- HI and LO are unchanged. -/
def KeepsHiLo (s t : State) : Prop := t.hi = s.hi ∧ t.lo = s.lo

/-- An outcome is the completion of an instruction whose one effect is a general register's new value, discarded for r0
(10:R21). -/
def WritesRegister (o : Host.Outcome State Fault Refusal) (s : State) (rd : Reg) (v : DWord) : Prop :=
  ∃ t, o = .next t ∧ t.reg rd = (if rd = 0 then 0 else v) ∧ KeepsRegs [rd] s t ∧ KeepsHiLo s t
    ∧ Advances s t ∧ KeepsControl s t ∧ KeepsMemory s t

/-- An outcome is the completion of an instruction whose one effect is the new values of HI and LO, besides the hazard on the
registers just read from them (70:R470). -/
def WritesHiLo (o : Host.Outcome State Fault Refusal) (s : State) (hi lo : DWord) : Prop :=
  ∃ t, o = .next t ∧ t.hi = hi ∧ t.lo = lo ∧ KeepsRegs s.hazardRegs s t ∧ (∀ r, t.reg r = s.hiLoHazard.reg r)
    ∧ Advances s t ∧ KeepsControl s t ∧ KeepsMemory s t

/-- An instruction that does not complete: an exception, TLB shutdown or a hang, taken in a state in which nothing but memory
and the caches has changed. -/
def EndsEarly (s t : State) : Prop :=
  ∃ u, KeepsControl s u ∧ u.cp0 = s.cp0 ∧ KeepsRegs [] s u ∧ KeepsHiLo s u
    ∧ ((∃ e, t = u.takeException e) ∨ t = u.tlbShutdown ∨ t = u.hangUp)

/-- An outcome is the completion of an instruction without any effect but the advance. -/
def OnlyAdvances (o : Host.Outcome State Fault Refusal) (s : State) : Prop :=
  ∃ t, o = .next t ∧ KeepsRegs [] s t ∧ KeepsHiLo s t ∧ Advances s t ∧ KeepsControl s t ∧ KeepsMemory s t

/-- An outcome is the completion of a jump or branch: the next instruction is the delay slot, then `target`; the listed
register, if any, has a new value. -/
def Transfers (o : Host.Outcome State Fault Refusal) (s : State) (target : DWord) (link : Option Reg) : Prop :=
  ∃ t, o = .next t ∧ t.pc = s.npc ∧ t.npc = target ∧ t.ds = true
    ∧ (∀ r, link = some r → t.reg r = if r = 0 then 0 else s.pc + 8) ∧ KeepsRegs link.toList s t
    ∧ KeepsHiLo s t ∧ KeepsControl s t ∧ KeepsMemory s t

/-- An outcome is the completion of a branch-likely that is not taken: the delay slot is skipped. -/
def SkipsSlot (o : Host.Outcome State Fault Refusal) (s : State) (link : Option Reg) : Prop :=
  ∃ t, o = .next t ∧ t.pc = s.npc + 4 ∧ t.npc = s.npc + 8 ∧ t.ds = false
    ∧ (∀ r, link = some r → t.reg r = if r = 0 then 0 else s.pc + 8) ∧ KeepsRegs link.toList s t
    ∧ KeepsHiLo s t ∧ KeepsControl s t ∧ KeepsMemory s t

/-- An outcome is the completion of an instruction whose one effect is on the CP0 registers. -/
def ChangesCp0 (o : Host.Outcome State Fault Refusal) (s : State) (c : Cp0) : Prop :=
  ∃ t, o = .next t ∧ t.cp0 = c ∧ KeepsRegs [] s t ∧ KeepsHiLo s t
    ∧ t.pc = s.npc ∧ t.npc = s.npc + 4 ∧ t.ds = false ∧ t.tlb = s.tlb ∧ KeepsMemory s t

/-- No error is in the way of an access: the external agent answers every read without errors, every cache line has right
parity, and the data of a Valid Clean line matches memory (10:R75); memory has its canonical form. -/
structure State.Clean (s : State) : Prop where
  noBusError : s.busErrors = []
  noBadParity : s.badParity = []
  answered : s.noResponse = []
  dataTags : ∀ i, (s.dLine i).tagError = false
  dataBytes : ∀ i o, (s.dLine i).byteError o = false
  instructionTags : ∀ i, (s.iLine i).tagError = false
  cleanLines : ∀ a, (s.dLine (dIndex a)).hit a = true → (s.dLine (dIndex a)).w = false → s.cachedByte a = s.mem.read a
  memory : s.mem.wf = true

/-- An access to `va` is translated to `tr` and not watched (20:R115, 60:R445). -/
structure State.Reaches (va : DWord) (kind : AccessKind) (tr : Translation) (s : State) : Prop where
  translated : s.translate va kind = .ok tr s
  unwatched : s.watchMatch tr.pa kind = false

/-- The loads that get as far as translating their address, each with the bytes it reads: those whose alignment it has, the 64-bit
ones where they are enabled (20:R113, R114, 40:R220). -/
def State.loadParts (base rt : Reg) (offset : BitVec 16) (s : State) : List (Instr × Part) :=
  let va := s.effectiveAddress base offset
  let whole (n : Nat) : Part := { start := va, count := n }
  let left (m : Nat) : Part := leftPart m s.bigEndianCpu va
  let right (m : Nat) : Part := rightPart m s.bigEndianCpu va
  let aligned (n : Nat) (is : List Instr) : List (Instr × Part) :=
    if va.toNat % n = 0 then is.map fun i => (i, whole n) else []
  [(.lb base rt offset, whole 1), (.lbu base rt offset, whole 1), (.lwl base rt offset, left 4), (.lwr base rt offset, right 4)]
    ++ aligned 2 [.lh base rt offset, .lhu base rt offset] ++ aligned 4 [.lw base rt offset]
    ++ if s.is64bitOps then
        [(.ldl base rt offset, left 8), (.ldr base rt offset, right 8)] ++ aligned 4 [.lwu base rt offset]
          ++ aligned 8 [.ld base rt offset]
      else []

/-- The loads that get as far as translating their address. -/
def State.loadForms (base rt : Reg) (offset : BitVec 16) (s : State) : List Instr := (s.loadParts base rt offset).map Prod.fst

/-- The stores that get as far as translating their address. -/
def State.storeForms (base rt : Reg) (offset : BitVec 16) (s : State) : List Instr :=
  let aligned (n : Nat) (is : List Instr) : List Instr := if (s.effectiveAddress base offset).toNat % n = 0 then is else []
  [.sb base rt offset, .swl base rt offset, .swr base rt offset]
    ++ aligned 2 [.sh base rt offset] ++ aligned 4 [.sw base rt offset]
    ++ if s.is64bitOps then [.sdl base rt offset, .sdr base rt offset] ++ aligned 8 [.sd base rt offset] else []

/-- The CACHE operations (45:R370). -/
def cacheForms (base : Reg) (offset : BitVec 16) : List Instr :=
  [.cacheIndexInvalidateI base offset, .cacheIndexWriteBackInvalidateD base offset, .cacheIndexLoadTagI base offset,
    .cacheIndexLoadTagD base offset, .cacheIndexStoreTagI base offset, .cacheIndexStoreTagD base offset,
    .cacheCreateDirtyD base offset, .cacheHitInvalidateI base offset, .cacheHitInvalidateD base offset,
    .cacheFillI base offset, .cacheHitWriteBackInvalidateD base offset, .cacheHitWriteBackI base offset,
    .cacheHitWriteBackD base offset]

/-- The external agent answers a read of some words with an error indication in one of them, and with right parity where it is
checked (20:R124, R154, R157). -/
structure State.AnswersInError (words : WordAddr → Bool) (s : State) : Prop where
  answered : ∀ w, w ∈ s.noResponse → words w = false
  parity : s.busParityOn = true → ∀ a, a ∈ s.badParity → words (wordOf a) = true → wordOf a ∈ s.unchecked
  error : ∃ w, w ∈ s.busErrors ∧ words w = true

/-- Where parity is checked, the line of the data cache at an index can be replaced without an error: its tag is right, and its
data too if it is written back (20:R156). -/
def State.DataLineRight (i : BitVec 6) (s : State) : Prop :=
  s.parityOn = true → (s.dLine i).tagError = false ∧ ((s.dLine i).dirty = true → (s.dLine i).dataError = false)

/-- Where parity is checked, the tag of the line of the instruction cache at an index is in no error (20:R156). -/
def State.InstructionTagRight (i : BitVec 7) (s : State) : Prop := s.parityOn = true → (s.iLine i).tagError = false

/-- An outcome is the data bus error of a line fill: the line is left invalid (log 48), what it held written back if it was dirty
(20:R141, R142, R144), and nothing else has changed when the exception is taken (60:R419). -/
def RaisesOnFill (o : Host.Outcome State Fault Refusal) (i : BitVec 6) (s : State) : Prop :=
  let u := (if (s.dLine i).dirty then s.writeBack i else s)
  o = .next ((u.setDLine i { u.dLine i with v := false }).takeException .dbe)

/-- A byte of memory as an access with this cacheability finds it. -/
def State.readAs (cached : Bool) (a : PAddr) (s : State) : Byte :=
  if cached then s.byteAt a else s.mem.read a

/-- The value of the bytes of an access, as memory holds them (20:R120, R123). -/
def State.valueAt (tr : Translation) (part : Part) (s : State) : DWord :=
  assemble s.bigEndianCpu ((s.laneAddresses tr.pa part).map fun a => s.readAs tr.cached a)

/-- An outcome is the completion of a load: a register's new value, and every byte of memory reads as before. Lines of the data
cache may have moved if the access is cached, else nothing of memory or caches has changed. -/
def LoadsRegister (o : Host.Outcome State Fault Refusal) (s : State) (cached : Bool) (rt : Reg) (v : DWord) : Prop :=
  ∃ t, o = .next t ∧ t.reg rt = (if rt = 0 then 0 else v) ∧ KeepsRegs [rt] s t ∧ KeepsHiLo s t
    ∧ Advances s t ∧ KeepsControl s t ∧ t.icache = s.icache ∧ (∀ a, t.byteAt a = s.byteAt a)
    ∧ (cached = false → KeepsMemory s t)

/-- An outcome is the completion of a store: the listed bytes are in memory, and every other byte reads as before. -/
def StoresBytes (o : Host.Outcome State Fault Refusal) (s : State) (cached : Bool) (addrs : List PAddr)
    (bytes : List Byte) : Prop :=
  ∃ t, o = .next t ∧ addrs.map (fun a => t.readAs cached a) = bytes
    ∧ (∀ a, a ∉ addrs → t.byteAt a = s.byteAt a)
    ∧ (cached = false → t.dcache = s.dcache ∧ ∀ a, a ∉ addrs → t.mem.read a = s.mem.read a)
    ∧ KeepsRegs [] s t ∧ KeepsHiLo s t ∧ Advances s t ∧ KeepsControl s t ∧ t.icache = s.icache

/-- The low `n` bytes of a value in rising address order: the most significant first in big-endian order, the least significant
first in little-endian order (20:R110). -/
def orderedBytes (bigEndian : Bool) (n : Nat) (v : DWord) : List Byte :=
  (List.range n).map fun k => v.extractLsb' (8 * (if bigEndian then n - 1 - k else k)) 8

/-- The bits of a CP0 register a move writes (45:R383), in the layouts of log 7 and log 8. -/
def cp0WriteMask (rd : Reg) : DWord :=
  match rd.toNat with
  | 0 => 0x1F
  | 2 => 0x0FFFFFFF
  | 3 => 0x0FFFFFFF
  | 4 => 0xFFFFFFFFFE000000
  | 5 => 0x7F800
  | 6 => 0x1F
  | 9 => 0xFFFFFFFF
  | 10 => 0xC00000FFFFFFF8FF
  | 11 => 0xFFFFFFFF
  | 12 => 0x1257FFFF
  | 13 => 0x300
  | 14 => 0xFFFFFFFFFFFFFFFF
  | 16 => 0x0F800007
  | 17 => 0xFFFFFFFF
  | 18 => 0xFFFFFFFB
  | 20 => 0xFFFFFFF800000000
  | 26 => 0xFF
  | 28 => 0xFFFFFF83
  | 30 => 0xFFFFFFFFFFFFFFFF
  | _ => 0

/-- An outcome is the completion of a move to a CP0 register: the register's writable bits are those of `v`, every other CP0
register reads as before, but for Random, and for Cause when Count or Compare is written (its IP7 shows the timer). -/
def WritesCp0Register (o : Host.Outcome State Fault Refusal) (s : State) (rd : Reg) (v : DWord) : Prop :=
  ∃ t, o = .next t
    ∧ t.cp0Read rd = (if rd = 1 then t.cp0Read 1 else (s.cp0Read rd &&& ~~~cp0WriteMask rd) ||| (v &&& cp0WriteMask rd))
    ∧ (∀ r, r ≠ rd → r ≠ 1 → (r = 13 → rd ≠ 9 ∧ rd ≠ 11) → t.cp0Read r = s.cp0Read r)
    ∧ (t.cp0.random = if rd = 6 then 31 else nextRandom s.cp0.random s.cp0.wired)
    ∧ (rd = 11 → t.timerPending = false) ∧ (rd ≠ 9 → rd ≠ 11 → t.timerPending = s.timerPending)
    ∧ t.pc = s.npc ∧ t.npc = s.npc + 4 ∧ t.ds = false
    ∧ KeepsRegs [] s t ∧ KeepsHiLo s t ∧ t.tlb = s.tlb ∧ t.powerMode = s.powerMode ∧ KeepsMemory s t

/-- An outcome is the completion of a write of one TLB entry. -/
def WritesTlbEntry (o : Host.Outcome State Fault Refusal) (s : State) (i : BitVec 5) (e : TlbEntry) : Prop :=
  ∃ t, o = .next t ∧ t.tlbEntry i = e ∧ (∀ j, j ≠ i → t.tlbEntry j = s.tlbEntry j)
    ∧ t.cp0 = { s.cp0 with random := nextRandom s.cp0.random s.cp0.wired }
    ∧ t.pc = s.npc ∧ t.npc = s.npc + 4 ∧ t.ds = false
    ∧ KeepsRegs [] s t ∧ KeepsHiLo s t ∧ t.powerMode = s.powerMode ∧ KeepsMemory s t

/-- External memory received the sixteen bytes of a line, and nothing else of it changed. -/
def LineWritten (line : BitVec 28) (data : Vector Byte 16) (s t : State) : Prop :=
  (∀ k : Fin 16, t.mem.read (lineByte line k.val) = data[k]) ∧ ∀ a, lineOf a ≠ line → t.mem.read a = s.mem.read a

/-- One data cache line is replaced; the other lines and the instruction cache are unchanged. -/
def ReplacesDLine (i : BitVec 6) (l : DCacheLine) (s t : State) : Prop :=
  t.dLine i = l ∧ (∀ j, j ≠ i → t.dLine j = s.dLine j) ∧ t.icache = s.icache

/-- One instruction cache line is replaced; the other lines and the data cache are unchanged. -/
def ReplacesILine (i : BitVec 7) (l : ICacheLine) (s t : State) : Prop :=
  t.iLine i = l ∧ (∀ j, j ≠ i → t.iLine j = s.iLine j) ∧ t.dcache = s.dcache

/-- An outcome is the completion of an operation on the caches: registers, CP0 but Random, and the TLB are unchanged. -/
def OperatesCaches (o : Host.Outcome State Fault Refusal) (s : State) (p : State → Prop) : Prop :=
  ∃ t, o = .next t ∧ p t ∧ KeepsRegs [] s t ∧ KeepsHiLo s t ∧ Advances s t ∧ KeepsControl s t

end Sys2Proof.Machine
end

