-- ==== Sys2Proof/Certificates/Slice0/Obligations.lean ====
section
/-! DEFINITION. The statements for the provers: encoding, reset and invariants, the step, exceptions, every family of
instructions, memory, CP0, the caches, the power modes. -/

open Sys2Proof Sys2Proof.Machine

/-- The decoder reads every instruction back from the word the encoder gives it, and so does the host's question about table
words. -/
def Obligations.DecodeEncode : Prop :=
  ∀ i : Instr, decode (encode i) = .ok i ∧ decodeTableWord 32 (encode i).toNat = some i

/-- Every word that decodes is the encoding of the instruction it decodes to: no bit of it is dropped (30:R171). -/
def Obligations.EncodeDecode : Prop :=
  ∀ (w : Word32) (i : Instr), decode w = .ok i → encode i = w

/-- Words written out from the encodings of spec 40 to 46. -/
def Obligations.SpecWordsDecode : Prop :=
  decode 0x8C880004 = .ok (.lw 4 8 4) ∧ decode 0x88880001 = .ok (.lwl 4 8 1) ∧ decode 0xFC880000 = .ok (.sd 4 8 0)
    ∧ decode 0x00E5402C = .ok (.dadd 7 5 8) ∧ decode 0x00064103 = .ok (.sra 6 8 4)
    ∧ decode 0x01464007 = .ok (.srav 10 6 8) ∧ decode 0x0004403C = .ok (.dsll32 4 8 0)
    ∧ decode 0x01CF001A = .ok (.div 14 15) ∧ decode 0x02320028 = .ok (.madd16 17 18)
    ∧ decode 0x02320029 = .ok (.dmadd16 17 18) ∧ decode 0x0C000800 = .ok (.jal 0x800)
    ∧ decode 0x0320F809 = .ok (.jalr 25 31) ∧ decode 0x1480FFFC = .ok (.bne 4 0 0xFFFC)
    ∧ decode 0x04B30008 = .ok (.bgezall 5 8) ∧ decode 0x01E001F4 = .ok (.teq 15 0 7)
    ∧ decode 0x052CFFFF = .ok (.teqi 9 0xFFFF) ∧ decode 0x46020800 = .ok (.cop1 0x2020800)
    ∧ decode 0x401A7000 = .ok (.mfc0 26 14) ∧ decode 0x40A85000 = .ok (.dmtc0 8 10) ∧ decode 0x42000018 = .ok .eret
    ∧ decode 0xBC950000 = .ok (.cacheHitWriteBackInvalidateD 4 0) ∧ decode 0x42000022 = .ok .suspend

/-- What the words that are no instruction do: the reserved major opcodes, SPECIAL functions and REGIMM codes raise RI; the
unlisted COP0 and CACHE encodings raise CpU(0), or have no meaning when CP0 is usable; an instruction with a non-zero bit in a
must-be-zero field has no meaning, but raises CpU(0) all the same where it needs CP0 (30:R170, R171; the refusals are U24 and
U25, log 34). -/
def Obligations.ReservedEncodings : Prop :=
  ∀ (w : Word32) (s : State),
    let op := w.extractLsb' 26 6
    let rs := w.extractLsb' 21 5
    let rt := w.extractLsb' 16 5
    let funct := w.extractLsb' 0 6
    (op ∈ [0x1C, 0x1D, 0x1E, 0x1F, 0x33, 0x3B] → s.execWord w = .next (s.takeException .ri))
      ∧ (op = 0 → funct ∈ [0x01, 0x05, 0x0A, 0x0B, 0x0E, 0x15, 0x35, 0x37, 0x39, 0x3D] →
          s.execWord w = .next (s.takeException .ri))
      ∧ (op = 1 → rt ∉ [0x00, 0x01, 0x02, 0x03, 0x08, 0x09, 0x0A, 0x0B, 0x0C, 0x0E, 0x10, 0x11, 0x12, 0x13] →
          s.execWord w = .next (s.takeException .ri))
      ∧ (op = 0x10 →
          (rs.getLsbD 4 = false ∧ rs ∉ [0, 1, 4, 5])
            ∨ (rs.getLsbD 4 = true ∧ funct ∉ [0x01, 0x02, 0x06, 0x08, 0x18, 0x21, 0x22, 0x23]) →
          s.execWord w = if s.cp0Usable then .refused .undefinedCop0 else .next (s.takeException (.cpU 0)))
      ∧ (op = 0x2F → rt ∉ [0x00, 0x01, 0x04, 0x05, 0x08, 0x09, 0x0D, 0x10, 0x11, 0x14, 0x15, 0x18, 0x19] →
          s.execWord w = if s.cp0Usable then .refused .undefinedCacheOp else .next (s.takeException (.cpU 0)))
      ∧ (op = 0 →
          (funct ∈ [0x04, 0x06, 0x07, 0x14, 0x16, 0x17, 0x20, 0x21, 0x22, 0x23, 0x24, 0x25, 0x26, 0x27, 0x2A, 0x2B, 0x2C,
              0x2D, 0x2E, 0x2F] ∧ w &&& 0x000007C0 ≠ 0)
            ∨ (funct ∈ [0x00, 0x02, 0x03, 0x38, 0x3A, 0x3B, 0x3C, 0x3E, 0x3F] ∧ w &&& 0x03E00000 ≠ 0)
            ∨ (funct ∈ [0x18, 0x19, 0x1A, 0x1B, 0x1C, 0x1D, 0x1E, 0x1F, 0x28, 0x29] ∧ w &&& 0x0000FFC0 ≠ 0)
            ∨ (funct ∈ [0x10, 0x12] ∧ w &&& 0x03FF07C0 ≠ 0)
            ∨ (funct ∈ [0x08, 0x11, 0x13] ∧ w &&& 0x001FFFC0 ≠ 0)
            ∨ (funct = 0x09 ∧ w &&& 0x001F07C0 ≠ 0)
            ∨ (funct = 0x0F ∧ w &&& 0x03FFFFC0 ≠ 0) →
          s.execWord w = .refused .nonZeroField)
      ∧ ((op ∈ [0x06, 0x07, 0x16, 0x17] ∧ w &&& 0x001F0000 ≠ 0) ∨ (op = 0x0F ∧ w &&& 0x03E00000 ≠ 0) →
          s.execWord w = .refused .nonZeroField)
      ∧ (op = 0x10 →
          (rs ∈ [0, 1, 4, 5] ∧ w &&& 0x7FF ≠ 0)
            ∨ (rs.getLsbD 4 = true ∧ funct ∈ [0x01, 0x02, 0x06, 0x08, 0x18, 0x21, 0x22, 0x23] ∧ w &&& 0x01FFFFC0 ≠ 0) →
          s.execWord w = if s.cp0Usable then .refused .nonZeroField else .next (s.takeException (.cpU 0)))

/-- r0 reads 0 and a write to it changes nothing; a write to another register changes that register alone (10:R20, R21). -/
def Obligations.RegisterZero : Prop :=
  ∀ (s : State) (v : DWord),
    s.reg 0 = 0 ∧ s.setReg 0 v = s
      ∧ ∀ r : Reg, r ≠ 0 → (s.setReg r v).reg r = v ∧ ∀ r', r' ≠ r → (s.setReg r v).reg r' = s.reg r'

/-- What the spec says of the state after reset (10:R80, 60:R461), and PRId and Config.BE as they read. -/
def Obligations.ResetValues : Prop :=
  let s := State.reset
  s.pc = 0xFFFFFFFFBFC00000 ∧ s.npc = s.pc + 4 ∧ s.ds = false
    ∧ s.cp0.status.ts = false ∧ s.cp0.status.sr = false ∧ s.cp0.status.erl = true ∧ s.cp0.status.bev = true
    ∧ s.cp0.random = 31 ∧ s.cp0.wired = 0 ∧ s.powerMode = .fullspeed
    ∧ s.mode = .kernel ∧ s.interruptPending = false ∧ s.is64bitOps = true
    ∧ s.cp0.config.be = s.pins.bigEndian
    ∧ s.cp0Read 15 &&& 0xFFFFFFFFFFFFFF00 = 0xC00
    ∧ s.translate s.pc .fetch = .ok { pa := 0x1FC00000, cached := false } s

/-- The state after reset meets the invariants of `StepKeepsProcessorInvariant` and `StepKeepsMemoryCanonical`. The spec gives
Random, Wired, the mode and the pc (10:R80); that the page sizes are legal rests on the zero TLB entries of log 3, and that
external memory is canonical on the empty memory of log 4: both are choices of the model (DESIGN CHOICE). -/
def Obligations.ResetMeetsInvariants : Prop :=
  State.reset.CpuInv ∧ State.reset.mem.wf = true

/-- Every step keeps external memory in its canonical form. -/
def Obligations.StepKeepsMemoryCanonical : Prop :=
  ∀ s t : State, s.mem.wf = true → step s = .next t → t.mem.wf = true

/-- Every step keeps the processor's invariant: Random in [Wired, 31], legal TLB page sizes, a defined mode, sequential
addresses outside delay slots. Three parts rest on choices of the model: the page sizes after a cold reset on its zero TLB
(log 43, log 3; 10:R80 leaves the TLB undefined), the page sizes after TLBWI and TLBWR on the refusal of U3 (log 32), and the
mode after MTC0 and ERET on the refusal of U17 (log 30). -/
def Obligations.StepKeepsProcessorInvariant : Prop :=
  ∀ s t : State, s.CpuInv → step s = .next t → t.CpuInv

/-- A step of a running machine without an enabled interrupt runs the instruction that the fetched word decodes to, then comes
the gap between steps; the word of an uncached fetch is made of the four bytes of memory at its physical address, in the
byte order of the pin (60:R401, 20:R122), that of a cached fetch is the word of the hit line, or of the line that a miss puts
into the cache from memory (20:R143). Behind a spoiled HI/LO hazard window registers are open besides (70:R470). -/
def Obligations.StepRunsDecodedInstruction : Prop :=
  ∀ (s : State) (i : Instr), s.Runs → s.interruptPending = false →
    (∀ (w : Word32) (t : State), s.fetch s.pc = .ok w t → decode w = .ok i →
        step s = State.thenGap (s.settleHazard (exec i t)))
      ∧ (s.hiLo.spoiled = [] → ∀ o, s.settleHazard o = o)
      ∧ (∀ pa : PAddr, s.pc.toNat % 4 = 0 → s.translate s.pc .fetch = .ok { pa := pa, cached := false } s →
        s.busErrors = [] → s.badParity = [] → s.noResponse = [] →
        decodeBytes s.cp0.config.be (s.mem.read pa) (s.mem.read (pa + 1)) (s.mem.read (pa + 2)) (s.mem.read (pa + 3)) = .ok i →
        step s = State.thenGap (s.settleHazard (exec i s)))
      ∧ ∀ pa : PAddr, s.pc.toNat % 4 = 0 → s.translate s.pc .fetch = .ok { pa := pa, cached := true } s →
        let l := s.iLine (s.pc.extractLsb' 4 7)
        let hit : Prop := l.v = true ∧ l.ptag = pa.extractLsb' 10 22
        let wordIn (m : ICacheLine) : Word32 := wordInOrder s.cp0.config.be (m.wordBytes (pa.extractLsb' 2 2))
        (hit → s.cp0.status.de = true ∨ (l.tagError = false ∧ l.wordError (pa.extractLsb' 2 2) = false) →
          decode (wordIn l) = .ok i → step s = State.thenGap (s.settleHazard (exec i s)))
        ∧ (¬hit → s.cp0.status.de = true ∨ l.tagError = false →
          s.busErrors = [] → s.badParity = [] → s.noResponse = [] →
          ∃ m, m.v = true ∧ m.ptag = pa.extractLsb' 10 22 ∧ m.tagError = false
            ∧ (∀ k : Fin 16, m.data[k] = s.mem.read (lineByte (pa.extractLsb' 4 28) k.val))
            ∧ (decode (wordIn m) = .ok i →
                step s = State.thenGap (s.settleHazard (exec i (s.setILine (s.pc.extractLsb' 4 7) m)))))

/-- When an interrupt is taken: the condition of 60:R428; then the step takes Int with the effects of the instruction discarded,
unless the instruction itself ended early, which `trapped` marks: an exception of the instruction goes first (60:R401). That
TLB shutdown and a hang go first as well, and that a fault or refusal of the instruction does not, is the model's choice
(log 42). -/
def Obligations.InterruptsTaken : Prop :=
  (∀ s : State,
      (s.interruptPending = true ↔ s.cp0.status.ie = true ∧ s.cp0.status.exl = false ∧ s.cp0.status.erl = false
        ∧ s.causeIp &&& s.cp0.status.im ≠ 0)
      ∧ (s.takeException .int).causeIp = s.causeIp ∧ (s.takeException .int).cp0.cause.excCode = 0
      ∧ (s.Runs → ∀ t, s.runInstruction = .next t →
          (s.interruptPending = false → step s = State.thenGap (.next t))
          ∧ (s.interruptPending = true → step s = State.thenGap (.next (if t.trapped then t else s.takeException .int)))))
    ∧ (∀ (i : Instr) (s t : State), exec i s = .next t → t.trapped = true → EndsEarly s t)
    ∧ ∀ (e : Exc) (u : State),
        (u.takeException e).trapped = true ∧ u.tlbShutdown.trapped = true ∧ u.hangUp.trapped = true

/-- Resets and NMI come before the instruction, a cold reset first (60:R401); an NMI cannot be masked, but a machine that is stuck
does not take it (60:R413, 10:R72, U4, 20:R154; log 28, log 54). What each leaves (60:R411 to R413, 10:R80): the reset
vector, Fullspeed, kernel mode by ERL = 1, BEV = 1, TS = 0, ErrorEPC the restart address; SR = 0, Random = 31, Wired = 0, Config
and the parity check from the pins after a cold reset; SR = 1 and everything else retained after a soft reset or NMI, but HI and
LO of a running multiply or divide. A soft reset may find the instruction at pc begun: the register of a multi-cycle
instruction, or HI and LO of a multiply or divide, are then open, and each byte of a store may have arrived or not (60:R412,
U21; that it is this instruction is log 47); the caches are retained (10:R80). -/
def Obligations.ResetsAndNmi : Prop :=
  ∀ s : State,
    let begun (i : Instr) (t : State) : Prop := ∃ w, s.fetch s.pc = .ok w t ∧ decode w = .ok i
    (s.coldReset = true → s.cycle = .next s.takeColdReset)
    ∧ (s.powerMode = .fullspeed → s.coldReset = false → s.softReset = true →
        ∃ u : State, s.cycle = .next u.takeSoftReset
          ∧ u = { s with gpr := u.gpr, hi := u.hi, lo := u.lo, mem := u.mem }
          ∧ (∀ r, u.reg r ≠ s.reg r → ∃ i t, begun i t ∧ multiCycleDestination i = some r)
          ∧ (u.hi ≠ s.hi ∨ u.lo ≠ s.lo → ∃ i t, begun i t ∧ usesMultiplier i = true)
          ∧ (s.mem.wf = true → ∀ a, u.mem.read a = s.mem.read a
              ∨ ∃ i t v, begun i t ∧ exec i t = .next v ∧ u.mem.read a = v.mem.read a))
    ∧ (s.powerMode = .fullspeed → s.coldReset = false → s.softReset = false → s.hung = false →
        s.nmiPending = true → s.cycle = .next s.takeNmi)
    ∧ (∀ t, t = s.takeColdReset ∨ t = s.takeSoftReset ∨ t = s.takeNmi →
        t.pc = 0xFFFFFFFFBFC00000 ∧ t.npc = t.pc + 4 ∧ t.ds = false ∧ t.powerMode = .fullspeed ∧ t.mode = .kernel
        ∧ t.cp0.status.erl = true ∧ t.cp0.status.bev = true ∧ t.cp0.status.ts = false
        ∧ t.cp0.errorEpc = (if s.ds then s.pc - 4 else s.pc))
    ∧ (s.takeColdReset.cp0.status.sr = false ∧ s.takeColdReset.cp0.random = 31 ∧ s.takeColdReset.cp0.wired = 0
        ∧ s.takeColdReset.cp0.config.be = s.pins.bigEndian ∧ s.takeColdReset.busParityOff = s.pins.hizParity)
    ∧ (s.takeSoftReset.softReset = false ∧ s.takeNmi.nmiPending = false ∧ s.takeNmi.softReset = s.softReset)
    ∧ (∀ t, t = s.takeSoftReset ∨ t = s.takeNmi →
        t.cp0 = { s.cp0 with
          errorEpc := t.cp0.errorEpc
          status := { s.cp0.status with ts := false, sr := true, bev := true, erl := true } }
        ∧ t.gpr = s.gpr ∧ t.tlb = s.tlb ∧ t.icache = s.icache ∧ t.dcache = s.dcache ∧ t.mem = s.mem
        ∧ t.timerPending = s.timerPending ∧ t.busParityOff = s.busParityOff
        ∧ (s.mdBusy = 0 → t.hi = s.hi ∧ t.lo = s.lo))

/-- In Standby and Suspend no instruction runs: a reset or NMI is taken, an enabled pending interrupt returns to Fullspeed,
and with no interrupt source active nothing happens; Hibernate ends by a cold reset only (60:R450). What a masked request
does is the open parameter of log 10. -/
def Obligations.PowerModeSteps : Prop :=
  ∀ s : State,
    (s.powerMode = .standby ∨ s.powerMode = .suspend →
      (s.coldReset = true → s.cycle = .next s.takeColdReset)
      ∧ (s.coldReset = false → s.softReset = true → s.cycle = .next s.takeSoftReset)
      ∧ (s.coldReset = false → s.softReset = false → s.nmiPending = true → s.cycle = .next s.takeNmi)
      ∧ (s.coldReset = false → s.softReset = false → s.nmiPending = false →
          (s.interruptPending = true → s.cycle = .next { s with powerMode := .fullspeed })
          ∧ (s.causeIp = 0 → s.cycle = .next s)
          ∧ (s.cycle = .next s ∨ s.cycle = .next { s with powerMode := .fullspeed })))
    ∧ (s.powerMode = .hibernate → s.cycle = .next (if s.coldReset then s.takeColdReset else s))

/-- What happens between two steps (60:R401): Count advances by the amount the environment chooses, the open constant
`Config.countAdvance`; the timer request is set exactly if it was set or one of the values Count passes is Compare; in Hibernate
Count stands still (60:R440, 10:R39; log 14). Then comes the environment's next batch of acts: an external write request changes
the interrupt register where its enable bits say so and requests an NMI by bits 22 and 6 (20:R153, 60:R420; log 41), the pins,
the external agent's writes, errors and disabled data checks (20:R151, R154, R157); Cause.IP shows pins and register together
(10:R46, R77, 60:R420). What no clock sees in Suspend and Hibernate is log 52, what the environment may do log 13. -/
def Obligations.BetweenSteps : Prop :=
  ∀ s : State,
    s.betweenSteps = { (s.inputs.headD []).foldl State.applyEvent s.advanceCount with
        inputs := s.inputs.tail, freeCount := s.freeCount + 1 }
    ∧ (s.powerMode = .hibernate → s.advanceCount = s)
    ∧ (s.powerMode ≠ .hibernate →
        let n := Config.countAdvance s.freeCount
        s.advanceCount = { s with
          cp0 := { s.cp0 with count := s.cp0.count + BitVec.ofNat 32 n }, timerPending := s.advanceCount.timerPending }
        ∧ (s.advanceCount.timerPending = true ↔
            s.timerPending = true ∨ ∃ k, 1 ≤ k ∧ k ≤ n ∧ s.cp0.count + BitVec.ofNat 32 k = s.cp0.compare))
    ∧ (∀ (data : Word32) (t : State), t = s.applyEvent (.externalWrite data) →
        t = { s with intReg := t.intReg, nmiPending := t.nmiPending }
        ∧ (s.powerMode = .fullspeed ∨ s.powerMode = .standby →
            (∀ n, n < 5 → t.intReg.getLsbD n = if data.getLsbD (16 + n) then data.getLsbD n else s.intReg.getLsbD n)
            ∧ (t.nmiPending = true ↔ s.nmiPending = true ∨ (data.getLsbD 22 = true ∧ data.getLsbD 6 = true)))
        ∧ (s.powerMode = .suspend ∨ s.powerMode = .hibernate → t = s))
    ∧ (∀ (b : BitVec 5) (p : Pins),
        s.applyEvent (.setIntPins b) = { s with intPins := b } ∧ s.applyEvent (.setPins p) = { s with pins := p }
        ∧ s.applyEvent .coldResetPins = { s with coldReset := true }
        ∧ (s.powerMode = .hibernate → s.applyEvent .nmiPin = s ∧ s.applyEvent .softResetPin = s)
        ∧ (s.powerMode ≠ .hibernate → s.applyEvent .nmiPin = { s with nmiPending := true }
            ∧ s.applyEvent .softResetPin = { s with softReset := true }))
    ∧ (∀ (a : PAddr) (b : Byte), ∃ m, s.applyEvent (.agentWrite a b) = { s with mem := m }
        ∧ (s.mem.wf = true → m.wf = true ∧ m.read a = b ∧ ∀ a', a' ≠ a → m.read a' = s.mem.read a'))
    ∧ (∀ (w : WordAddr) (a : PAddr) (present : Bool), ∃ ws ns us bs,
        s.applyEvent (.setBusError w present) = { s with busErrors := ws }
        ∧ s.applyEvent (.setNoResponse w present) = { s with noResponse := ns }
        ∧ s.applyEvent (.setUnchecked w present) = { s with unchecked := us }
        ∧ s.applyEvent (.setBadParity a present) = { s with badParity := bs }
        ∧ (∀ x, x ∈ ws ↔ if x = w then present = true else x ∈ s.busErrors)
        ∧ (∀ x, x ∈ ns ↔ if x = w then present = true else x ∈ s.noResponse)
        ∧ (∀ x, x ∈ us ↔ if x = w then present = true else x ∈ s.unchecked)
        ∧ (∀ x, x ∈ bs ↔ if x = a then present = true else x ∈ s.badParity))
    ∧ (∀ n, n < 2 → s.causeIp.getLsbD n = s.cp0.cause.ipSw.getLsbD n)
    ∧ (∀ n, n < 5 → s.causeIp.getLsbD (n + 2) = (s.intPins.getLsbD n || s.intReg.getLsbD n))
    ∧ s.causeIp.getLsbD 7 = s.timerPending

/-- What leaves the machine stuck. Two TLB entries that match one mapped address shut the TLB down, whatever the reference: the
translation itself, any load, store or CACHE operation that gets as far as translating, the fetch; Status.TS is set and nothing
else the spec names changes, and from then on only a cold or soft reset moves the machine, and clears TS (10:R72, R44, U4; that a
pending NMI is not taken is log 28). A read that the external agent never answers, here a byte load or a fetch that is uncached,
hangs the processor: only a reset ends that, no NMI (20:R154; log 54). A state with TS = 1 that is not stuck, to which no step
leads, takes an NMI and else does not move (60:R413; log 28). -/
def Obligations.StuckMachine : Prop :=
  ∀ s : State,
    let shut : State := { s.mapStatus (fun st => { st with ts := true }) with hung := true, trapped := true }
    let ambiguous (va : DWord) : Prop :=
      (s.is64bitAddr = true ∨ isWord va = true) ∧ s.segment va = some .mapped
        ∧ ∃ i j ms, s.tlbMatches (va.extractLsb' 62 2) (va.extractLsb' 11 29) = i :: j :: ms
    (s.mode ≠ .undefined →
      (∀ va k, ambiguous va → s.translate va k = .shutdown s)
      ∧ (∀ (base rt : Reg) (offset : BitVec 16), ambiguous (s.effectiveAddress base offset) →
          (∀ i, i ∈ s.loadForms base rt offset ++ s.storeForms base rt offset → exec i s = .next shut)
          ∧ (s.cp0Usable = true → ∀ i, i ∈ cacheForms base offset → exec i s = .next shut))
      ∧ (s.pc.toNat % 4 = 0 → ambiguous s.pc → s.runInstruction = .next shut))
    ∧ (s.powerMode = .fullspeed → s.cp0.status.ts = true → s.coldReset = false → s.softReset = false →
        s.nmiPending = false → s.cycle = .next s)
    ∧ s.takeColdReset.cp0.status.ts = false ∧ s.takeSoftReset.cp0.status.ts = false ∧ s.takeNmi.cp0.status.ts = false
    ∧ s.hangUp = { s with hung := true, trapped := true }
    ∧ (∀ (base rt : Reg) (offset : BitVec 16) (tr : Translation),
        let va := s.effectiveAddress base offset
        s.Reaches va .load tr → tr.cached = false →
        (∀ a, a ∈ s.laneAddresses tr.pa { start := va, count := 1 } → a.extractLsb' 2 30 ∈ s.noResponse) →
        exec (.lb base rt offset) s = .next s.hangUp ∧ exec (.lbu base rt offset) s = .next s.hangUp)
    ∧ (∀ pa : PAddr, s.pc.toNat % 4 = 0 → s.translate s.pc .fetch = .ok { pa := pa, cached := false } s →
        pa.extractLsb' 2 30 ∈ s.noResponse → s.runInstruction = .next s.hangUp)
    ∧ (s.powerMode = .fullspeed → s.hung = true → s.coldReset = false → s.softReset = false → s.cycle = .next s)
    ∧ (s.powerMode = .fullspeed → s.coldReset = false → s.softReset = false → shut.cycle = .next shut)
    ∧ s.takeColdReset.hung = false ∧ s.takeSoftReset.hung = false

/-- The common exception entry: EPC and BD from the delay slot flag unless EXL was 1, ExcCode, CE for coprocessor unusable,
EXL, the vector; and nothing else changes but the address registers an address exception records, CE, which is open, and
Random, which stays in its range (60:R405, R410; Random is log 15). -/
def Obligations.ExceptionEntry : Prop :=
  ∀ (s : State) (e : Exc), e ≠ .cacheError →
    let t := s.takeException e
    t.cp0.epc = (if s.cp0.status.exl then s.cp0.epc else if s.ds then s.pc - 4 else s.pc)
    ∧ t.cp0.cause.bd = (if s.cp0.status.exl then s.cp0.cause.bd else s.ds)
    ∧ t.cp0.cause.excCode = e.code ∧ (∀ n, e = .cpU n → t.cp0.cause.ce = n) ∧ t.cp0.cause.ipSw = s.cp0.cause.ipSw
    ∧ t.cp0.status = { s.cp0.status with exl := true } ∧ t.mode = .kernel ∧ t.interruptPending = false
    ∧ t.pc = s.vectorBase + s.vectorOffset e ∧ t.npc = t.pc + 4 ∧ t.ds = false
    ∧ (t.cp0.random = s.cp0.random ∨ t.cp0.random = nextRandom s.cp0.random s.cp0.wired)
    ∧ t.cp0 = { s.cp0 with
        epc := t.cp0.epc, cause := t.cp0.cause, status := t.cp0.status, random := t.cp0.random
        badVAddr := t.cp0.badVAddr, entryHi := t.cp0.entryHi
        context := t.cp0.context, xcontext := t.cp0.xcontext }
    ∧ ((∀ va k, e ≠ .addressError va k ∧ e ≠ .tlbRefill va k ∧ e ≠ .tlbInvalid va k ∧ e ≠ .tlbMod va) →
        t.cp0.badVAddr = s.cp0.badVAddr ∧ t.cp0.entryHi = s.cp0.entryHi ∧ t.cp0.context = s.cp0.context
        ∧ t.cp0.xcontext = s.cp0.xcontext)
    ∧ t = { s with
        pc := t.pc, npc := t.npc, ds := t.ds, cp0 := t.cp0
        hiLo := t.hiLo, hiLoPrev := t.hiLoPrev, hiLoSaved := t.hiLoSaved, trapped := t.trapped }
    ∧ t.gpr = s.gpr ∧ t.hi = s.hi ∧ t.lo = s.lo ∧ t.tlb = s.tlb ∧ t.powerMode = s.powerMode
    ∧ t.timerPending = s.timerPending ∧ KeepsMemory s t

/-- The exception codes, and the vectors of every exception but the resets, with the choice of the refill vector by the space of
the address (60:R400, R404, R406). -/
def Obligations.CodesAndVectors : Prop :=
  ∀ (s : State) (va : DWord) (k : AccessKind),
    let base : DWord := if s.cp0.status.bev then 0xFFFFFFFFBFC00200 else 0xFFFFFFFF80000000
    let supervisorSpace : Prop :=
      va.extractLsb' 62 2 = 1 ∨ (0xFFFFFFFFC0000000 ≤ va.toNat ∧ va.toNat ≤ 0xFFFFFFFFDFFFFFFF)
    (∀ e, (∀ va k, e ≠ .tlbRefill va k) → e ≠ .cacheError → (s.takeException e).pc = base + 0x180)
    ∧ (s.cp0.status.exl = true → (s.takeException (.tlbRefill va k)).pc = base + 0x180)
    ∧ (s.cp0.status.exl = false → va.extractLsb' 62 2 = 0 →
        (s.takeException (.tlbRefill va k)).pc = base + if s.cp0.status.ux then 0x80 else 0)
    ∧ (s.cp0.status.exl = false → supervisorSpace →
        (s.takeException (.tlbRefill va k)).pc = base + if s.cp0.status.sx then 0x80 else 0)
    ∧ (s.cp0.status.exl = false → va.extractLsb' 62 2 ≠ 0 → ¬supervisorSpace →
        (s.takeException (.tlbRefill va k)).pc = base + if s.cp0.status.kx then 0x80 else 0)
    ∧ Exc.int.code = 0 ∧ (Exc.tlbMod va).code = 1
    ∧ (Exc.tlbRefill va k).code = (if k = .store then 3 else 2)
    ∧ (Exc.tlbInvalid va k).code = (if k = .store then 3 else 2)
    ∧ (Exc.addressError va k).code = (if k = .store then 5 else 4)
    ∧ Exc.ibe.code = 6 ∧ Exc.dbe.code = 7 ∧ Exc.sys.code = 8 ∧ Exc.bp.code = 9 ∧ Exc.ri.code = 10
    ∧ (Exc.cpU 0).code = 11 ∧ Exc.ov.code = 12 ∧ Exc.tr.code = 13 ∧ Exc.watch.code = 23

/-- What the address exceptions record: all four TLB exceptions alike, whatever EXL is (60:R407); an address error records
BadVAddr, and the fields it leaves unspecified do not reach PTEBase or ASID (60:R415). -/
def Obligations.AddressRecords : Prop :=
  ∀ (s : State) (va : DWord) (k : AccessKind),
    (∀ e, e = .tlbRefill va k ∨ e = .tlbInvalid va k ∨ e = .tlbMod va →
      let c := (s.takeException e).cp0
      c.badVAddr = va
      ∧ c.context = { pteBase := s.cp0.context.pteBase, badVpn2 := va.extractLsb' 11 21 }
      ∧ c.xcontext = { pteBase := s.cp0.xcontext.pteBase, r := va.extractLsb' 62 2, badVpn2 := va.extractLsb' 11 29 }
      ∧ c.entryHi = { r := va.extractLsb' 62 2, vpn2 := va.extractLsb' 11 29, asid := s.cp0.entryHi.asid })
    ∧ let c := (s.takeException (.addressError va k)).cp0
      c.badVAddr = va ∧ c.context.pteBase = s.cp0.context.pteBase ∧ c.xcontext.pteBase = s.cp0.xcontext.pteBase
      ∧ c.entryHi.asid = s.cp0.entryHi.asid

/-- The cache error entry: ErrorEPC and ERL, the vector; Cause and EPC are not written; with DE = 1 no load, store or fetch
raises it (60:R414). The Cache Error register is open (log 25). A read that the external agent answers with an error raises DBE for
a load, for the fill of a store and for CACHE Fill, and IBE for a fetch; no register is written, nor BadVAddr (20:R124, R154,
60:R419). That the line of a failed fill is invalid is log 48, and that CACHE Fill leaves it so log 49. -/
def Obligations.CacheErrorEntry : Prop :=
  ∀ s : State,
    let t := s.takeException .cacheError
    t.cp0.errorEpc = (if s.ds then s.pc - 4 else s.pc)
    ∧ t.cp0.status = { s.cp0.status with erl := true }
    ∧ t.pc = (if s.cp0.status.bev then 0xFFFFFFFFBFC00300 else 0xFFFFFFFFA0000100) ∧ t.npc = t.pc + 4 ∧ t.ds = false
    ∧ t.cp0 = { s.cp0 with
        errorEpc := t.cp0.errorEpc, status := t.cp0.status, cacheErr := t.cp0.cacheErr, random := t.cp0.random }
    ∧ t.gpr = s.gpr ∧ t.hi = s.hi ∧ t.lo = s.lo ∧ t.tlb = s.tlb ∧ KeepsMemory s t
    ∧ (s.cp0.status.de = true → ∀ (va v : DWord) (part : Part) (u : State),
        s.loadPart va part ≠ .raise .cacheError u ∧ s.storePart va part v ≠ .raise .cacheError u
        ∧ s.fetch va ≠ .raise .cacheError u)
    ∧ (∀ (base rt : Reg) (offset : BitVec 16) (tr : Translation),
        let va := s.effectiveAddress base offset
        let line := lineHasWord (lineOf tr.pa)
        let misses : Prop := tr.cached = true ∧ (s.dLine (dIndex tr.pa)).hit tr.pa = false ∧ s.DataLineRight (dIndex tr.pa)
          ∧ s.AnswersInError line
        (s.Reaches va .load tr →
          (∀ i p, (i, p) ∈ s.loadParts base rt offset → tr.cached = false →
            s.AnswersInError (fun w => (s.laneAddresses tr.pa p).any fun a => wordOf a == w) →
            exec i s = .next (s.takeException .dbe))
          ∧ ∀ i, i ∈ s.loadForms base rt offset → misses → RaisesOnFill (exec i s) (dIndex tr.pa) s)
        ∧ (s.Reaches va .store tr → ∀ i, i ∈ s.storeForms base rt offset → misses → RaisesOnFill (exec i s) (dIndex tr.pa) s)
        ∧ (s.cp0Usable = true → s.translate va .load = .ok tr s → s.InstructionTagRight (iIndex va) → s.AnswersInError line →
          exec (.cacheFillI base offset) s
            = .next ((s.setILine (iIndex va) { s.iLine (iIndex va) with v := false }).takeException .dbe)))
    ∧ (∀ tr : Translation, s.pc.toNat % 4 = 0 → s.translate s.pc .fetch = .ok tr s →
        (tr.cached = false → s.AnswersInError (fun w => w == wordOf tr.pa) → s.runInstruction = .next (s.takeException .ibe))
        ∧ (tr.cached = true → (s.iLine (iIndex s.pc)).hit tr.pa = false → s.InstructionTagRight (iIndex s.pc) →
            s.AnswersInError (lineHasWord (lineOf tr.pa)) →
            s.runInstruction
              = .next ((s.setILine (iIndex s.pc) { s.iLine (iIndex s.pc) with v := false }).takeException .ibe)))
    ∧ (∀ e, e = .dbe ∨ e = .ibe → (s.takeException e).cp0.badVAddr = s.cp0.badVAddr ∧ KeepsRegs [] s (s.takeException e)
        ∧ KeepsHiLo s (s.takeException e) ∧ KeepsMemory s (s.takeException e)
        ∧ (s.takeException e).cp0.cause.excCode = (if e = .ibe then 6 else 7))

/-- ERET: to ErrorEPC with ERL cleared if ERL = 1, else to EPC with EXL cleared; at once, with no delay slot; nothing else
changes but Random (45:R369), and the registers that a skipped instruction of the interrupted program leaves unspecified (70:R470;
which these are is log 19), none where no program was interrupted. A return to Status.KSU = 11 is refused (U17). -/
def Obligations.ExceptionReturn : Prop :=
  ∀ s : State, s.cp0Usable = true → s.ds = false →
    let normal : Status := { s.cp0.status with exl := false }
    let fromError : Status := { s.cp0.status with erl := false }
    let st := if s.cp0.status.erl then fromError else normal
    let target := if s.cp0.status.erl then s.cp0.errorEpc else s.cp0.epc
    (st.mode ≠ .undefined →
      ∃ t, exec .eret s = .next t ∧ t.pc = target ∧ t.npc = target + 4 ∧ t.ds = false
        ∧ t.cp0 = { s.cp0 with status := st, random := nextRandom s.cp0.random s.cp0.wired }
        ∧ KeepsRegs (s.returnWindow true target).spoiled s t ∧ (s.hiLoSaved = [] → KeepsRegs [] s t)
        ∧ KeepsHiLo s t ∧ t.tlb = s.tlb ∧ t.powerMode = s.powerMode ∧ KeepsMemory s t)
    ∧ (st.mode = .undefined → exec .eret s = .refused .undefinedMode)

/-- ERET undoes an exception entry made from normal level: execution resumes at the instruction, or at the branch whose delay
slot it stands in, in the old mode with the old interrupt enable (60:R410, R408). The entry saves the HI/LO hazard window with
the address and the registers (which window that is in a delay slot is log 19), and the return resumes exactly it, with nothing
lifted and nothing added (42:R296), unless another program waits there with the same registers and another window; then the
registers of each program that may be meant are in the window by an open choice (log 19). -/
def Obligations.ReturnResumes : Prop :=
  ∀ (s : State) (e : Exc), e ≠ .cacheError → s.cp0.status.exl = false → s.cp0.status.erl = false → s.mode ≠ .undefined →
    ∃ t, exec .eret (s.takeException e) = .next t
      ∧ t.pc = (if s.ds then s.pc - 4 else s.pc) ∧ t.npc = t.pc + 4 ∧ t.ds = false
      ∧ t.cp0.status = s.cp0.status ∧ t.mode = s.mode ∧ KeepsHiLo s t ∧ t.tlb = s.tlb ∧ KeepsMemory s t
      ∧ (let window : HiLoWindow := if s.ds then s.hiLoPrev else s.hiLo
        let me : SavedWindow := { addr := t.pc, gpr := s.gpr, window := window, resumed := false }
        let resumes (skipped : Bool) (f : HiLoWindow → List Reg) (r : Reg) : Prop :=
          (∃ w, (w = me ∨ w ∈ s.hiLoSaved) ∧ (w.resumed = false ∨ w.addr = t.pc ∨ w.addr = t.pc - 4) ∧ r ∈ f w.window)
            ∧ (s.takeException e).freeBit (.resumes skipped r) = true
        (s.takeException e).hiLoSaved = me :: s.hiLoSaved
        ∧ ((∀ w, w ∈ s.hiLoSaved → w.resumed = false → w.addr = t.pc ∨ w.addr = t.pc - 4 →
              w.gpr ≠ s.gpr ∨ (w.addr = t.pc ∧ w.window = window)) →
            t.hiLo = window ∧ t.hiLoSaved = s.hiLoSaved ∧ KeepsRegs [] s t)
        ∧ ((∃ w, w ∈ s.hiLoSaved ∧ w.resumed = false ∧ (w.addr = t.pc ∨ w.addr = t.pc - 4)
              ∧ w.gpr = s.gpr ∧ ¬(w.addr = t.pc ∧ w.window = window)) →
            t.hiLoSaved = me :: s.hiLoSaved
            ∧ ∀ r, (r ∈ t.hiLo.last ↔ resumes false (·.last) r)
              ∧ (r ∈ t.hiLo.beforeLast ↔ resumes false (·.beforeLast) r ∨ resumes true (·.last) r)
              ∧ (r ∈ t.hiLo.spoiled ↔ resumes false (·.spoiled) r)
              ∧ (t.reg r ≠ s.reg r → resumes true (·.spoiled) r)))

/-- Logic and comparison on all 64 bits, in every mode (41:R233 to R238, R245 to R250). -/
def Obligations.LogicAndCompare : Prop :=
  ∀ (rs rt rd : Reg) (imm : BitVec 16) (s : State),
    let a := s.reg rs
    let b := s.reg rt
    WritesRegister (exec (.andi rs rt imm) s) s rt (a &&& BitVec.ofNat 64 imm.toNat)
    ∧ WritesRegister (exec (.ori rs rt imm) s) s rt (a ||| BitVec.ofNat 64 imm.toNat)
    ∧ WritesRegister (exec (.xori rs rt imm) s) s rt (a ^^^ BitVec.ofNat 64 imm.toNat)
    ∧ WritesRegister (exec (.lui rt imm) s) s rt (BitVec.ofInt 64 (imm.toInt * 65536))
    ∧ WritesRegister (exec (.slti rs rt imm) s) s rt (if a.toInt < imm.toInt then 1 else 0)
    ∧ WritesRegister (exec (.sltiu rs rt imm) s) s rt (if a.toNat < (BitVec.ofInt 64 imm.toInt).toNat then 1 else 0)
    ∧ WritesRegister (exec (.slt rs rt rd) s) s rd (if a.toInt < b.toInt then 1 else 0)
    ∧ WritesRegister (exec (.sltu rs rt rd) s) s rd (if a.toNat < b.toNat then 1 else 0)
    ∧ WritesRegister (exec (.and rs rt rd) s) s rd (a &&& b)
    ∧ WritesRegister (exec (.or rs rt rd) s) s rd (a ||| b)
    ∧ WritesRegister (exec (.xor rs rt rd) s) s rd (a ^^^ b)
    ∧ WritesRegister (exec (.nor rs rt rd) s) s rd (~~~(a ||| b))

/-- Word addition and subtraction on words: the sum or difference modulo 2^32, sign-extended; the trapping forms raise Ov
instead where it is no 32-bit value, with nothing written (41:R231, R232, R241 to R244, R271). -/
def Obligations.WordArithmetic : Prop :=
  ∀ (rs rt rd : Reg) (imm : BitVec 16) (s : State), isWord (s.reg rs) = true →
    let a := (s.reg rs).toInt
    let b := (s.reg rt).toInt
    let word (x : Int) : DWord := BitVec.ofInt 64 (x.bmod (2 ^ 32))
    let fits (x : Int) : Prop := -(2 ^ 31) ≤ x ∧ x ≤ 2 ^ 31 - 1
    WritesRegister (exec (.addiu rs rt imm) s) s rt (word (a + imm.toInt))
    ∧ (fits (a + imm.toInt) → WritesRegister (exec (.addi rs rt imm) s) s rt (word (a + imm.toInt)))
    ∧ (¬fits (a + imm.toInt) → exec (.addi rs rt imm) s = .next (s.takeException .ov))
    ∧ (isWord (s.reg rt) = true →
        WritesRegister (exec (.addu rs rt rd) s) s rd (word (a + b))
        ∧ WritesRegister (exec (.subu rs rt rd) s) s rd (word (a - b))
        ∧ (fits (a + b) → WritesRegister (exec (.add rs rt rd) s) s rd (word (a + b)))
        ∧ (¬fits (a + b) → exec (.add rs rt rd) s = .next (s.takeException .ov))
        ∧ (fits (a - b) → WritesRegister (exec (.sub rs rt rd) s) s rd (word (a - b)))
        ∧ (¬fits (a - b) → exec (.sub rs rt rd) s = .next (s.takeException .ov)))

/-- Doubleword addition and subtraction where 64-bit operations are enabled: modulo 2^64; the trapping forms raise Ov where the
exact result is no 64-bit value (41:R239, R240, R251 to R254, R271). -/
def Obligations.DoublewordArithmetic : Prop :=
  ∀ (rs rt rd : Reg) (imm : BitVec 16) (s : State), s.is64bitOps = true →
    let a := (s.reg rs).toInt
    let b := (s.reg rt).toInt
    let fits (x : Int) : Prop := -(2 ^ 63) ≤ x ∧ x ≤ 2 ^ 63 - 1
    WritesRegister (exec (.daddiu rs rt imm) s) s rt (BitVec.ofInt 64 (a + imm.toInt))
    ∧ WritesRegister (exec (.daddu rs rt rd) s) s rd (BitVec.ofInt 64 (a + b))
    ∧ WritesRegister (exec (.dsubu rs rt rd) s) s rd (BitVec.ofInt 64 (a - b))
    ∧ (fits (a + imm.toInt) → WritesRegister (exec (.daddi rs rt imm) s) s rt (BitVec.ofInt 64 (a + imm.toInt)))
    ∧ (¬fits (a + imm.toInt) → exec (.daddi rs rt imm) s = .next (s.takeException .ov))
    ∧ (fits (a + b) → WritesRegister (exec (.dadd rs rt rd) s) s rd (BitVec.ofInt 64 (a + b)))
    ∧ (¬fits (a + b) → exec (.dadd rs rt rd) s = .next (s.takeException .ov))
    ∧ (fits (a - b) → WritesRegister (exec (.dsub rs rt rd) s) s rd (BitVec.ofInt 64 (a - b)))
    ∧ (¬fits (a - b) → exec (.dsub rs rt rd) s = .next (s.takeException .ov))

/-- Word shifts: left on the low word of any value, right on a word, the result sign-extended; a variable shift takes five bits
of its count (41:R255 to R260). -/
def Obligations.WordShifts : Prop :=
  ∀ (rs rt rd : Reg) (sa : BitVec 5) (s : State),
    let v := s.reg rt
    let n := (s.reg rs).toNat % 32
    let word (x : Int) : DWord := BitVec.ofInt 64 (x.bmod (2 ^ 32))
    WritesRegister (exec (.sll rt rd sa) s) s rd (word (v.toInt * 2 ^ sa.toNat))
    ∧ WritesRegister (exec (.sllv rs rt rd) s) s rd (word (v.toInt * 2 ^ n))
    ∧ (isWord v = true →
        WritesRegister (exec (.srl rt rd sa) s) s rd (word ((v.toNat % 2 ^ 32 / 2 ^ sa.toNat : Nat)))
        ∧ WritesRegister (exec (.sra rt rd sa) s) s rd (BitVec.ofInt 64 (v.toInt / 2 ^ sa.toNat))
        ∧ WritesRegister (exec (.srlv rs rt rd) s) s rd (word ((v.toNat % 2 ^ 32 / 2 ^ n : Nat)))
        ∧ WritesRegister (exec (.srav rs rt rd) s) s rd (BitVec.ofInt 64 (v.toInt / 2 ^ n)))

/-- Doubleword shifts where 64-bit operations are enabled: by 0 to 31, by 32 to 63, and by six bits of a register (41:R261 to
R269). -/
def Obligations.DoublewordShifts : Prop :=
  ∀ (rs rt rd : Reg) (sa : BitVec 5) (s : State), s.is64bitOps = true →
    let v := s.reg rt
    let n := (s.reg rs).toNat % 64
    let left (k : Nat) : DWord := BitVec.ofNat 64 (v.toNat * 2 ^ k)
    let right (k : Nat) : DWord := BitVec.ofNat 64 (v.toNat / 2 ^ k)
    let arith (k : Nat) : DWord := BitVec.ofInt 64 (v.toInt / 2 ^ k)
    WritesRegister (exec (.dsll rt rd sa) s) s rd (left sa.toNat)
    ∧ WritesRegister (exec (.dsrl rt rd sa) s) s rd (right sa.toNat)
    ∧ WritesRegister (exec (.dsra rt rd sa) s) s rd (arith sa.toNat)
    ∧ WritesRegister (exec (.dsll32 rt rd sa) s) s rd (left (sa.toNat + 32))
    ∧ WritesRegister (exec (.dsrl32 rt rd sa) s) s rd (right (sa.toNat + 32))
    ∧ WritesRegister (exec (.dsra32 rt rd sa) s) s rd (arith (sa.toNat + 32))
    ∧ WritesRegister (exec (.dsllv rs rt rd) s) s rd (left n)
    ∧ WritesRegister (exec (.dsrlv rs rt rd) s) s rd (right n)
    ∧ WritesRegister (exec (.dsrav rs rt rd) s) s rd (arith n)

/-- A 32-bit operation completes on every operand: on one that is no word its destination has an open value and nothing else
differs; only ADD, ADDI and SUB may raise Ov instead (41:R230, U11). -/
def Obligations.NonWordOperands : Prop :=
  ∀ (rs rt rd : Reg) (imm : BitVec 16) (sa : BitVec 5) (s : State),
    (∃ v, WritesRegister (exec (.addiu rs rt imm) s) s rt v)
    ∧ (∃ v, WritesRegister (exec (.addu rs rt rd) s) s rd v)
    ∧ (∃ v, WritesRegister (exec (.subu rs rt rd) s) s rd v)
    ∧ (∃ v, WritesRegister (exec (.srl rt rd sa) s) s rd v)
    ∧ (∃ v, WritesRegister (exec (.sra rt rd sa) s) s rd v)
    ∧ (∃ v, WritesRegister (exec (.srlv rs rt rd) s) s rd v)
    ∧ (∃ v, WritesRegister (exec (.srav rs rt rd) s) s rd v)
    ∧ ((∃ v, WritesRegister (exec (.addi rs rt imm) s) s rt v) ∨ exec (.addi rs rt imm) s = .next (s.takeException .ov))
    ∧ ((∃ v, WritesRegister (exec (.add rs rt rd) s) s rd v) ∨ exec (.add rs rt rd) s = .next (s.takeException .ov))
    ∧ ((∃ v, WritesRegister (exec (.sub rs rt rd) s) s rd v) ∨ exec (.sub rs rt rd) s = .next (s.takeException .ov))

/-- The 64-bit instructions raise RI in a user or supervisor mode whose 64-bit operations are disabled, before anything else
happens (30:R172, 40:R220, 41:R270). -/
def Obligations.SixtyFourBitDisabled : Prop :=
  ∀ (rs rt rd : Reg) (imm : BitVec 16) (sa : BitVec 5) (s : State), s.is64bitOps = false → s.mode ≠ .undefined →
    (∀ i, i ∈ [.dadd rs rt rd, .daddu rs rt rd, .daddi rs rt imm, .daddiu rs rt imm, .dsub rs rt rd, .dsubu rs rt rd,
        .dsll rt rd sa, .dsrl rt rd sa, .dsra rt rd sa, .dsllv rs rt rd, .dsrlv rs rt rd, .dsrav rs rt rd,
        .dsll32 rt rd sa, .dsrl32 rt rd sa, .dsra32 rt rd sa, .dmult rs rt, .dmultu rs rt, .ddiv rs rt, .ddivu rs rt,
        .dmadd16 rs rt, .ld rs rt imm, .sd rs rt imm, .ldl rs rt imm, .ldr rs rt imm, .sdl rs rt imm, .sdr rs rt imm,
        .lwu rs rt imm, .lld rs rt imm, .scd rs rt imm] →
      exec i s = .next (s.takeException .ri))
    ∧ (s.cp0Usable = true → ∀ i, i ∈ [.dmfc0 rt rd, .dmtc0 rt rd] → exec i s = .next (s.takeException .ri))

/-- The products in HI and LO (42:R281, R282, R285, R286). In the HI/LO hazard window the registers just read from HI or LO are
open, also as operands (70:R470; that they are read open is log 19). -/
def Obligations.Multiply : Prop :=
  ∀ (rs rt : Reg) (s : State),
    let a := s.hiLoHazard.reg rs
    let b := s.hiLoHazard.reg rt
    let word (x : Int) : DWord := BitVec.ofInt 64 (x.bmod (2 ^ 32))
    let ua : Nat := a.toNat % 2 ^ 32
    let ub : Nat := b.toNat % 2 ^ 32
    (isWord a = true → isWord b = true →
      WritesHiLo (exec (.mult rs rt) s) s (BitVec.ofInt 64 (a.toInt * b.toInt / 2 ^ 32)) (word (a.toInt * b.toInt))
      ∧ WritesHiLo (exec (.multu rs rt) s) s (word ((ua * ub / 2 ^ 32 : Nat))) (word ((ua * ub : Nat))))
    ∧ (s.is64bitOps = true →
      WritesHiLo (exec (.dmult rs rt) s) s (BitVec.ofInt 64 (a.toInt * b.toInt / 2 ^ 64)) (BitVec.ofInt 64 (a.toInt * b.toInt))
      ∧ WritesHiLo (exec (.dmultu rs rt) s) s
          (BitVec.ofNat 64 (a.toNat * b.toNat / 2 ^ 64)) (BitVec.ofNat 64 (a.toNat * b.toNat)))

/-- Quotient in LO, truncated toward zero, and remainder in HI, with the dividend's sign, where the divisor is not 0 and the
quotient is representable (42:R283, R284, R287, R288, R297), of the operands as the HI/LO hazard leaves them (log 19). -/
def Obligations.Divide : Prop :=
  ∀ (rs rt : Reg) (s : State),
    let a := s.hiLoHazard.reg rs
    let b := s.hiLoHazard.reg rt
    let word (x : Int) : DWord := BitVec.ofInt 64 (x.bmod (2 ^ 32))
    let ua : Nat := a.toNat % 2 ^ 32
    let ub : Nat := b.toNat % 2 ^ 32
    (isWord a = true → isWord b = true → b ≠ 0 →
      (¬(a.toInt = -(2 ^ 31) ∧ b.toInt = -1) →
        WritesHiLo (exec (.div rs rt) s) s (BitVec.ofInt 64 (a.toInt.tmod b.toInt)) (BitVec.ofInt 64 (a.toInt.tdiv b.toInt)))
      ∧ WritesHiLo (exec (.divu rs rt) s) s (word ((ua % ub : Nat))) (word ((ua / ub : Nat))))
    ∧ (s.is64bitOps = true → b ≠ 0 →
      (¬(a.toInt = -(2 ^ 63) ∧ b.toInt = -1) →
        WritesHiLo (exec (.ddiv rs rt) s) s (BitVec.ofInt 64 (a.toInt.tmod b.toInt)) (BitVec.ofInt 64 (a.toInt.tdiv b.toInt)))
      ∧ WritesHiLo (exec (.ddivu rs rt) s) s (BitVec.ofNat 64 (a.toNat % b.toNat)) (BitVec.ofNat 64 (a.toNat / b.toNat)))

/-- The multiply, divide and sum-of-products instructions complete on all operands: a zero divisor, a quotient that is not
representable and a badly extended operand leave open values in HI and LO and raise nothing (42:R280, R297; U11, U12, U19). -/
def Obligations.MulDivAlwaysCompletes : Prop :=
  ∀ (rs rt : Reg) (s : State),
    (∀ i, i ∈ [.mult rs rt, .multu rs rt, .div rs rt, .divu rs rt, .madd16 rs rt] → ∃ hi lo, WritesHiLo (exec i s) s hi lo)
    ∧ (s.is64bitOps = true → ∀ i, i ∈ [.dmult rs rt, .dmultu rs rt, .ddiv rs rt, .ddivu rs rt, .dmadd16 rs rt] →
        ∃ hi lo, WritesHiLo (exec i s) s hi lo)

/-- The sum-of-products instructions on sign-extended 16-bit operands: MADD16 adds the product to the 64-bit value of the low
words of HI and LO, DMADD16 adds it to LO and leaves HI open (42:R293, R294), of the operands as the HI/LO hazard leaves them
(log 19). -/
def Obligations.SumOfProducts : Prop :=
  ∀ (rs rt : Reg) (s : State), is16 (s.hiLoHazard.reg rs) = true → is16 (s.hiLoHazard.reg rt) = true →
    let p := (s.hiLoHazard.reg rs).toInt * (s.hiLoHazard.reg rt).toInt
    let acc : Nat := (s.hi.toNat % 2 ^ 32) * 2 ^ 32 + s.lo.toNat % 2 ^ 32
    let sum : DWord := BitVec.ofInt 64 (p + acc)
    WritesHiLo (exec (.madd16 rs rt) s) s
      (BitVec.ofInt 64 (sum.toInt / 2 ^ 32)) (BitVec.ofInt 64 (sum.toInt.bmod (2 ^ 32)))
    ∧ (s.is64bitOps = true → ∃ hi, WritesHiLo (exec (.dmadd16 rs rt) s) s hi (BitVec.ofInt 64 (p + s.lo.toInt)))

/-- The moves: MFHI and MFLO read all 64 bits; MTHI leaves LO and MTLO leaves HI alone (42:R289 to R292, D17), of the register as
the HI/LO hazard leaves it (log 19); each waits for a running multiply or divide (42:R295; log 26). -/
def Obligations.HiLoMoves : Prop :=
  ∀ (r : Reg) (s : State),
    WritesRegister (exec (.mfhi r) s) s r s.hi ∧ WritesRegister (exec (.mflo r) s) s r s.lo
    ∧ WritesHiLo (exec (.mthi r) s) s (s.hiLoHazard.reg r) s.lo ∧ WritesHiLo (exec (.mtlo r) s) s s.hi (s.hiLoHazard.reg r)
    ∧ ∀ i t, i ∈ [.mfhi r, .mflo r, .mthi r, .mtlo r] → exec i s = .next t → t.mdBusy = 0

/-- The HI/LO hazard: MFHI and MFLO open a window of two instructions; an instruction that writes HI or LO in it leaves the
registers read open, and no others, before it reads its operands; where it is the first of the two, the register read is open
after the second one as well; outside the window nothing is changed (70:R470, U13). ERET counts as an instruction: behind it
the handler's window goes on, and that of the interrupted program it goes on with, an instruction older if one was skipped, whose
own end then leaves its registers open at once (42:R296, 70:R470). That program waits there, is the last one interrupted or has all
but four of the present registers, and no other one could be meant; where none is certain, each register of all that may be meant is
in the window by an open choice. How the program is told by address, order and registers is log 19, as is that operands are read
open. -/
def Obligations.HiLoHazard : Prop :=
  let writers (rs rt : Reg) : List Instr :=
    [.mult rs rt, .multu rs rt, .div rs rt, .divu rs rt, .dmult rs rt, .dmultu rs rt, .ddiv rs rt, .ddivu rs rt,
      .madd16 rs rt, .dmadd16 rs rt, .mthi rs, .mtlo rs]
  (∀ (rd : Reg) (i : Instr) (s t : State), i = .mfhi rd ∨ i = .mflo rd → exec i s = .next t →
      t.hiLo = { last := [rd], beforeLast := s.hiLo.last, spoiled := [] })
    ∧ (∀ (i : Instr) (s t : State), (∀ rd, i ≠ .mfhi rd ∧ i ≠ .mflo rd) → i ≠ .eret → exec i s = .next t →
      t.trapped = false →
      (∀ rs rt, i ∈ writers rs rt → t.hiLo = { last := [], beforeLast := s.hiLo.last, spoiled := s.hiLo.last })
      ∧ ((∀ rs rt, i ∉ writers rs rt) → t.hiLo = { last := [], beforeLast := s.hiLo.last, spoiled := [] }))
    ∧ (∀ s t : State, exec .eret s = .next t → t.trapped = false →
      let differing (w : SavedWindow) : Nat := (List.finRange 32).countP fun i => w.gpr[i] ≠ s.gpr[i]
      let opened (p : Reg → Prop) : Prop := ∀ r,
        (r ≠ 0 ∧ p r → t.reg r = Config.openWord (.hazardAfter r) s.freeCount) ∧ (¬(r ≠ 0 ∧ p r) → t.reg r = s.reg r)
      (∀ w, s.returnProgram t.pc = some w → w ∈ s.hiLoSaved ∧ w.resumed = false
        ∧ (s.waiting.head? = some w ∨ differing w ≤ 4)
        ∧ ((w.addr = t.pc ∧ t.hiLo = { w.window with beforeLast := w.window.beforeLast ++ s.hiLo.last } ∧ opened fun _ => False)
          ∨ (w.addr = t.pc - 4 ∧ t.hiLo = { last := [], beforeLast := w.window.last ++ s.hiLo.last, spoiled := [] }
            ∧ opened (· ∈ w.window.spoiled)))
        ∧ (w.addr = t.pc → differing w ≤ 4 → t.hiLoSaved = s.hiLoSaved.erase w)
        ∧ (¬(w.addr = t.pc ∧ differing w ≤ 4) → t.hiLoSaved = s.hiLoSaved.replace w { w with resumed := true }))
      ∧ (s.returnProgram t.pc = none →
        let resumes (skipped : Bool) (f : HiLoWindow → List Reg) (r : Reg) : Prop :=
          (∃ w, w ∈ s.hiLoSaved ∧ (w.resumed = false ∨ w.addr = t.pc ∨ w.addr = t.pc - 4) ∧ r ∈ f w.window)
            ∧ s.freeBit (.resumes skipped r) = true
        t.hiLoSaved = s.hiLoSaved ∧ opened (resumes true (·.spoiled))
        ∧ ∀ r, (r ∈ t.hiLo.last ↔ resumes false (·.last) r)
          ∧ (r ∈ t.hiLo.beforeLast ↔ resumes false (·.beforeLast) r ∨ resumes true (·.last) r ∨ r ∈ s.hiLo.last)
          ∧ (r ∈ t.hiLo.spoiled ↔ resumes false (·.spoiled) r)))
    ∧ (∀ (a : DWord) (s : State) (w : SavedWindow), w ∈ s.waiting → w.addr = a ∨ w.addr = a - 4 →
      let differing (x : SavedWindow) : Nat := (List.finRange 32).countP fun i => x.gpr[i] ≠ s.gpr[i]
      let last (x : SavedWindow) : Prop := s.waiting.head? = some x
      let here (x : SavedWindow) : Prop := x.addr = a ∨ x.addr = a - 4
      last w ∨ differing w ≤ 4 →
      (∀ x, x ∈ s.waiting → (x.addr = w.addr ∧ x.window = w.window) ∨ (last w ∧ ¬here x)
        ∨ (differing w < differing x ∧ ¬(last x ∧ here x))) →
      ∃ v, s.returnProgram a = some v ∧ v.addr = w.addr ∧ v.window = w.window)
    ∧ (∀ (rs rt : Reg) (i : Instr) (s t : State), i ∈ writers rs rt → exec i s = .next t →
        KeepsRegs (s.hiLo.last ++ s.hiLo.beforeLast) s t)
    ∧ (∀ (r : Reg) (s : State), s.hiLoHazard.reg r =
        if r ≠ 0 ∧ r ∈ s.hiLo.last ++ s.hiLo.beforeLast then Config.openWord (.hazard r) s.freeCount else s.reg r)
    ∧ (∀ s : State, s.hiLo.last = [] → s.hiLo.beforeLast = [] → s.hiLoHazard = s)
    ∧ ∀ s t : State,
      (t.trapped = true ∨ s.hiLo.spoiled = [] → s.settleHazard (.next t) = .next t)
      ∧ (t.trapped = false → ∃ u, s.settleHazard (.next t) = .next u ∧ u = { t with gpr := u.gpr }
          ∧ ∀ r, u.reg r = if r ≠ 0 ∧ r ∈ s.hiLo.spoiled then Config.openWord (.hazardAfter r) t.freeCount else t.reg r)

/-- The jumps outside a delay slot: the delay slot runs next, then the target; JAL and JALR link, and the target of JALR is read
before its link is written (43:R301 to R304, R323). -/
def Obligations.Jumps : Prop :=
  ∀ (target : BitVec 26) (rs rd : Reg) (s : State), s.ds = false →
    let region : DWord := BitVec.ofNat 64 ((s.pc + 4).toNat / 2 ^ 28 * 2 ^ 28 + target.toNat * 4)
    Transfers (exec (.j target) s) s region none
    ∧ Transfers (exec (.jal target) s) s region (some 31)
    ∧ Transfers (exec (.jr rs) s) s (s.reg rs) none
    ∧ Transfers (exec (.jalr rs rd) s) s (s.reg rs) (some rd)

/-- The branches outside a delay slot, by 64-bit comparisons: the delay slot runs next, then the target if the condition holds,
else the instruction after the slot; the linking forms write r31 in both cases (43:R305 to R312, R323, R324). -/
def Obligations.Branches : Prop :=
  ∀ (rs rt : Reg) (offset : BitVec 16) (s : State), s.ds = false →
    let a := s.reg rs
    let target (taken : Bool) : DWord :=
      if taken then BitVec.ofInt 64 (s.pc.toInt + 4 + offset.toInt * 4) else s.npc + 4
    Transfers (exec (.beq rs rt offset) s) s (target (a = s.reg rt)) none
    ∧ Transfers (exec (.bne rs rt offset) s) s (target (a ≠ s.reg rt)) none
    ∧ Transfers (exec (.blez rs offset) s) s (target (a.toInt ≤ 0)) none
    ∧ Transfers (exec (.bgtz rs offset) s) s (target (0 < a.toInt)) none
    ∧ Transfers (exec (.bltz rs offset) s) s (target (a.toInt < 0)) none
    ∧ Transfers (exec (.bgez rs offset) s) s (target (0 ≤ a.toInt)) none
    ∧ Transfers (exec (.bltzal rs offset) s) s (target (a.toInt < 0)) (some 31)
    ∧ Transfers (exec (.bgezal rs offset) s) s (target (0 ≤ a.toInt)) (some 31)

/-- The branch-likely forms outside a delay slot: as the branches when taken; else the delay slot is skipped, the link register
written all the same (43:R313 to R321). -/
def Obligations.BranchLikely : Prop :=
  ∀ (rs rt : Reg) (offset : BitVec 16) (s : State), s.ds = false →
    let a := s.reg rs
    let target : DWord := BitVec.ofInt 64 (s.pc.toInt + 4 + offset.toInt * 4)
    let ends (i : Instr) (taken : Prop) (link : Option Reg) : Prop :=
      (taken → Transfers (exec i s) s target link) ∧ (¬taken → SkipsSlot (exec i s) s link)
    ends (.beql rs rt offset) (a = s.reg rt) none
    ∧ ends (.bnel rs rt offset) (a ≠ s.reg rt) none
    ∧ ends (.blezl rs offset) (a.toInt ≤ 0) none
    ∧ ends (.bgtzl rs offset) (0 < a.toInt) none
    ∧ ends (.bltzl rs offset) (a.toInt < 0) none
    ∧ ends (.bgezl rs offset) (0 ≤ a.toInt) none
    ∧ ends (.bltzall rs offset) (a.toInt < 0) (some 31)
    ∧ ends (.bgezall rs offset) (0 ≤ a.toInt) (some 31)

/-- A jump, branch or ERET in a delay slot is refused (43:R322, U14); so are CP0 moves of unused registers (10:R31, U1) or, for
the doubleword moves, of 32-bit registers (45:R363, R364, U16), and TLB writes with an illegal MASK (10:R36, U3). -/
def Obligations.RefusedForms : Prop :=
  ∀ (rs rt rd : Reg) (offset : BitVec 16) (target : BitVec 26) (s : State),
    (s.ds = true →
      (∀ i, i ∈ [.j target, .jal target, .jr rs, .jalr rs rd, .beq rs rt offset, .bne rs rt offset, .blez rs offset,
          .bgtz rs offset, .bltz rs offset, .bgez rs offset, .bltzal rs offset, .bgezal rs offset, .beql rs rt offset,
          .bnel rs rt offset, .blezl rs offset, .bgtzl rs offset, .bltzl rs offset, .bgezl rs offset, .bltzall rs offset,
          .bgezall rs offset] → exec i s = .refused .branchInDelaySlot)
      ∧ (s.cp0Usable = true → exec .eret s = .refused .branchInDelaySlot))
    ∧ (s.cp0Usable = true →
      (cp0Unused rd = true → exec (.mfc0 rt rd) s = .refused .reservedCp0Register
        ∧ exec (.mtc0 rt rd) s = .refused .reservedCp0Register
        ∧ (s.is64bitOps = true → exec (.dmfc0 rt rd) s = .refused .reservedCp0Register
            ∧ exec (.dmtc0 rt rd) s = .refused .reservedCp0Register))
      ∧ (cp0Unused rd = false → cp0Wide rd = false → s.is64bitOps = true →
          exec (.dmfc0 rt rd) s = .refused .cp0RegisterWidth ∧ exec (.dmtc0 rt rd) s = .refused .cp0RegisterWidth)
      ∧ (legalMask s.cp0.pageMask = false →
          exec .tlbwi s = .refused .illegalPageMask ∧ exec .tlbwr s = .refused .illegalPageMask))

/-- SYSCALL and BREAK take their exceptions in every mode, whatever their code: code 8 and 9, the general vector, EPC at the
instruction or at the branch whose delay slot it stands in; SYNC does nothing (44:R330 to R332, with their encodings; EPC is as
it was where EXL was 1, 60:R405). -/
def Obligations.SyscallBreakSync : Prop :=
  ∀ (code : BitVec 20) (s : State),
    let enters (i : Instr) (e : Exc) (n : BitVec 5) : Prop :=
      ∃ t, exec i s = .next t ∧ t = s.takeException e ∧ t.cp0.cause.excCode = n ∧ t.pc = s.vectorBase + 0x180
        ∧ (s.cp0.status.exl = false → t.cp0.epc = (if s.ds then s.pc - 4 else s.pc) ∧ t.cp0.cause.bd = s.ds)
    enters (.syscall code) .sys 8 ∧ enters (.brk code) .bp 9 ∧ OnlyAdvances (exec .sync s) s
    ∧ encode (.syscall code) = (0 : BitVec 6) ++ code ++ (0x0C : BitVec 6)
    ∧ encode (.brk code) = (0 : BitVec 6) ++ code ++ (0x0D : BitVec 6) ∧ encode .sync = 0x0000000F

/-- The trap instructions: Tr, with code 13 and the general vector, if the comparison of all 64 bits holds, in every mode, else
nothing; the code field does not matter; the immediate is sign-extended, also for the unsigned comparisons (44:R355; the single
comparisons are those of R333 to R344). -/
def Obligations.Traps : Prop :=
  ∀ (rs rt : Reg) (code : BitVec 10) (imm : BitVec 16) (s : State),
    let a := s.reg rs
    let b := s.reg rt
    let c : DWord := BitVec.ofInt 64 imm.toInt
    let ends (i : Instr) (condition : Prop) : Prop :=
      (condition → exec i s = .next (s.takeException .tr)) ∧ (¬condition → OnlyAdvances (exec i s) s)
    ends (.tge rs rt code) (b.toInt ≤ a.toInt) ∧ ends (.tgeu rs rt code) (b.toNat ≤ a.toNat)
    ∧ ends (.tlt rs rt code) (a.toInt < b.toInt) ∧ ends (.tltu rs rt code) (a.toNat < b.toNat)
    ∧ ends (.teq rs rt code) (a = b) ∧ ends (.tne rs rt code) (a ≠ b)
    ∧ ends (.tgei rs imm) (imm.toInt ≤ a.toInt) ∧ ends (.tgeiu rs imm) (c.toNat ≤ a.toNat)
    ∧ ends (.tlti rs imm) (a.toInt < imm.toInt) ∧ ends (.tltiu rs imm) (a.toNat < c.toNat)
    ∧ ends (.teqi rs imm) (a = c) ∧ ends (.tnei rs imm) (a ≠ c)
    ∧ (s.takeException .tr).cp0.cause.excCode = 13 ∧ (s.takeException .tr).pc = s.vectorBase + 0x180

/-- The instructions the VR4100 deletes raise RI in every mode, before any address is formed; no register but the exception
registers changes (44:R345 to R354, R356). That COP2, COP3, LWC2, SWC2, LDC2 and SDC2 do so is decision D14 (log 53). -/
def Obligations.DeletedInstructions : Prop :=
  ∀ (base rt : Reg) (offset : BitVec 16) (cofun : BitVec 26) (s : State) (i : Instr),
    i ∈ [.ll base rt offset, .sc base rt offset, .lld base rt offset, .scd base rt offset, .cop1 cofun, .lwc1 base rt offset,
      .swc1 base rt offset, .ldc1 base rt offset, .sdc1 base rt offset, .cop2 cofun, .cop3 cofun, .lwc2 base rt offset,
      .swc2 base rt offset, .ldc2 base rt offset, .sdc2 base rt offset] →
    exec i s = .next (s.takeException .ri) ∧ (s.takeException .ri).cp0.cause.excCode = 10
    ∧ KeepsRegs [] s (s.takeException .ri) ∧ KeepsHiLo s (s.takeException .ri) ∧ KeepsMemory s (s.takeException .ri)

/-- The aligned loads, where the address is reached and nothing is in error: the bytes memory holds, extended (40:R201 to R207,
20:R120).
In user mode with Status.RE = 1, which D8 would refuse, this is the model's choice (log 35). -/
def Obligations.AlignedLoads : Prop :=
  ∀ (base rt : Reg) (offset : BitVec 16) (s : State) (tr : Translation),
    let va := s.effectiveAddress base offset
    let value (n : Nat) : DWord := s.valueAt tr { start := va, count := n }
    let signed (n : Nat) : DWord := BitVec.ofInt 64 (((value n).toNat : Int).bmod (2 ^ (8 * n)))
    let loads (i : Instr) (v : DWord) : Prop := LoadsRegister (exec i s) s tr.cached rt v
    s.Clean → s.Reaches va .load tr →
      loads (.lb base rt offset) (signed 1) ∧ loads (.lbu base rt offset) (value 1)
      ∧ (va.toNat % 2 = 0 → loads (.lh base rt offset) (signed 2) ∧ loads (.lhu base rt offset) (value 2))
      ∧ (va.toNat % 4 = 0 → loads (.lw base rt offset) (signed 4)
          ∧ (s.is64bitOps = true → loads (.lwu base rt offset) (value 4)))
      ∧ (va.toNat % 8 = 0 → s.is64bitOps = true → loads (.ld base rt offset) (value 8))

/-- The unaligned loads: the bytes from the address to the end, or from the start to the address, of the aligned word or
doubleword, put beside the bytes kept of the register; any alignment will do (40:R208 to R211, 20:R114). LWR of less than a
word into a register that holds no word keeps or replaces the upper half (U10).
In user mode with Status.RE = 1, which D8 would refuse, this is the model's choice (log 35). -/
def Obligations.UnalignedLoads : Prop :=
  ∀ (base rt : Reg) (offset : BitVec 16) (s : State) (tr : Translation),
    let va := s.effectiveAddress base offset
    let old := s.reg rt
    let up (m : Nat) : Part := { start := va, count := m - va.toNat % m }
    let down (m : Nat) : Part := { start := va - BitVec.ofNat 64 (va.toNat % m), count := va.toNat % m + 1 }
    let left (m : Nat) : Part := if s.bigEndianCpu then up m else down m
    let right (m : Nat) : Part := if s.bigEndianCpu then down m else up m
    let l4 := (left 4).count
    let r4 := (right 4).count
    let l8 := (left 8).count
    let r8 := (right 8).count
    let wr : Word32 := ((low32 old >>> (8 * r4)) <<< (8 * r4)) ||| low32 (s.valueAt tr (right 4))
    let loads (i : Instr) (v : DWord) : Prop := LoadsRegister (exec i s) s tr.cached rt v
    s.Clean → s.Reaches va .load tr →
      loads (.lwl base rt offset)
        (sext32 ((low32 (s.valueAt tr (left 4)) <<< (8 * (4 - l4)))
          ||| (low32 old &&& BitVec.ofNat 32 (2 ^ (8 * (4 - l4)) - 1))))
      ∧ (∃ v, loads (.lwr base rt offset) v
          ∧ (v = sext32 wr ∨ (r4 ≠ 4 ∧ isWord old = false ∧ v = high32 old ++ wr)))
      ∧ (s.is64bitOps = true →
        loads (.ldl base rt offset)
          ((s.valueAt tr (left 8) <<< (8 * (8 - l8))) ||| (old &&& BitVec.ofNat 64 (2 ^ (8 * (8 - l8)) - 1)))
        ∧ loads (.ldr base rt offset) (((old >>> (8 * r8)) <<< (8 * r8)) ||| s.valueAt tr (right 8)))

/-- The aligned stores, where the address is reached and nothing is in error: the low bytes of the register, in the byte order of
the moment, at the bytes of the address; every other byte of memory reads as before (40:R212 to R215, 20:R121).
In user mode with Status.RE = 1, which D8 would refuse, this is the model's choice (log 35). -/
def Obligations.AlignedStores : Prop :=
  ∀ (base rt : Reg) (offset : BitVec 16) (s : State) (tr : Translation),
    let va := s.effectiveAddress base offset
    let stores (i : Instr) (n : Nat) : Prop :=
      StoresBytes (exec i s) s tr.cached (s.laneAddresses tr.pa { start := va, count := n })
        (orderedBytes s.bigEndianCpu n (s.reg rt))
    s.Clean → s.Reaches va .store tr →
      stores (.sb base rt offset) 1
      ∧ (va.toNat % 2 = 0 → stores (.sh base rt offset) 2)
      ∧ (va.toNat % 4 = 0 → stores (.sw base rt offset) 4)
      ∧ (va.toNat % 8 = 0 → s.is64bitOps = true → stores (.sd base rt offset) 8)

/-- The unaligned stores: the most or least significant bytes of the low word or of the register, at the bytes from the address to
the end, or from the start to the address, of the aligned word or doubleword (40:R216 to R219, 20:R114).
In user mode with Status.RE = 1, which D8 would refuse, this is the model's choice (log 35). -/
def Obligations.UnalignedStores : Prop :=
  ∀ (base rt : Reg) (offset : BitVec 16) (s : State) (tr : Translation),
    let va := s.effectiveAddress base offset
    let v := s.reg rt
    let up (m : Nat) : Part := { start := va, count := m - va.toNat % m }
    let down (m : Nat) : Part := { start := va - BitVec.ofNat 64 (va.toNat % m), count := va.toNat % m + 1 }
    let left (m : Nat) : Part := if s.bigEndianCpu then up m else down m
    let right (m : Nat) : Part := if s.bigEndianCpu then down m else up m
    let stores (i : Instr) (p : Part) (x : DWord) : Prop :=
      StoresBytes (exec i s) s tr.cached (s.laneAddresses tr.pa p) (orderedBytes s.bigEndianCpu p.count x)
    s.Clean → s.Reaches va .store tr →
      stores (.swl base rt offset) (left 4) (BitVec.ofNat 64 (v.toNat % 2 ^ 32 / 2 ^ (8 * (4 - (left 4).count))))
      ∧ stores (.swr base rt offset) (right 4) v
      ∧ (s.is64bitOps = true →
          stores (.sdl base rt offset) (left 8) (BitVec.ofNat 64 (v.toNat / 2 ^ (8 * (8 - (left 8).count))))
          ∧ stores (.sdr base rt offset) (right 8) v)

/-- A misaligned address raises AdEL for a load or a fetch and AdES for a store: no memory access is made and no register is
written (20:R113). LB, LBU and SB need no alignment: they complete at any address that is reached, with the byte at the address
(40:R201, R202, R212, 20:R110, R121; in user mode with Status.RE = 1 by the choice of log 35). -/
def Obligations.MisalignedAccess : Prop :=
  ∀ (base rt : Reg) (offset : BitVec 16) (s : State),
    let va := s.effectiveAddress base offset
    (va.toNat % 2 ≠ 0 → ∀ i, i ∈ [.lh base rt offset, .lhu base rt offset] →
      exec i s = .next (s.takeException (.addressError va .load)))
    ∧ (va.toNat % 2 ≠ 0 → exec (.sh base rt offset) s = .next (s.takeException (.addressError va .store)))
    ∧ (va.toNat % 4 ≠ 0 → exec (.lw base rt offset) s = .next (s.takeException (.addressError va .load))
        ∧ exec (.sw base rt offset) s = .next (s.takeException (.addressError va .store)))
    ∧ (s.is64bitOps = true →
        (va.toNat % 4 ≠ 0 → exec (.lwu base rt offset) s = .next (s.takeException (.addressError va .load)))
        ∧ (va.toNat % 8 ≠ 0 → exec (.ld base rt offset) s = .next (s.takeException (.addressError va .load))
            ∧ exec (.sd base rt offset) s = .next (s.takeException (.addressError va .store))))
    ∧ (s.pc.toNat % 4 ≠ 0 → s.runInstruction = .next (s.takeException (.addressError s.pc .fetch)))
    ∧ (∀ a k, KeepsMemory s (s.takeException (.addressError a k)) ∧ KeepsRegs [] s (s.takeException (.addressError a k))
        ∧ KeepsHiLo s (s.takeException (.addressError a k)))
    ∧ (s.Clean → ∀ tr : Translation,
        let byte : Part := { start := va, count := 1 }
        (s.Reaches va .load tr →
          LoadsRegister (exec (.lb base rt offset) s) s tr.cached rt
            (BitVec.ofInt 64 (((s.valueAt tr byte).toNat : Int).bmod (2 ^ 8)))
          ∧ LoadsRegister (exec (.lbu base rt offset) s) s tr.cached rt (s.valueAt tr byte))
        ∧ (s.Reaches va .store tr →
          StoresBytes (exec (.sb base rt offset) s) s tr.cached (s.laneAddresses tr.pa byte)
            (orderedBytes s.bigEndianCpu 1 (s.reg rt))))

/-- A load gives back what a store to the same address has just put there, cached or not, in both byte orders (20:R130). With
Status.CE = 1 a store plants parity from a register, so CE = 0 is asked for (10:R67). That an uncached read gives back what was
written rests on log 44 (no devices in the model's memory), the case of user mode with Status.RE = 1 on log 35. -/
def Obligations.StoreThenLoad : Prop :=
  ∀ (base rt rd : Reg) (offset : BitVec 16) (s : State) (tr : Translation),
    let va := s.effectiveAddress base offset
    let v := s.reg rt
    let gives (st ld : Instr) (w : DWord) : Prop :=
      ∃ t u, exec st s = .next t ∧ exec ld t = .next u ∧ u.reg rd = if rd = 0 then 0 else w
    s.Clean → s.Reaches va .store tr → s.Reaches va .load tr → s.cp0.status.ce = false →
      gives (.sb base rt offset) (.lbu base rd offset) (v &&& 0xFF)
      ∧ (va.toNat % 2 = 0 → gives (.sh base rt offset) (.lhu base rd offset) (v &&& 0xFFFF))
      ∧ (va.toNat % 4 = 0 → gives (.sw base rt offset) (.lw base rd offset) (sext32 (low32 v)))
      ∧ (va.toNat % 8 = 0 → s.is64bitOps = true → gives (.sd base rt offset) (.ld base rd offset) v)

/-- Translation of a mapped address: no entry raises TLB unmatched, one entry gives TLB invalid for V = 0, TLB change for a store
with D = 0, else the physical address, page frame above the page size and page offset below, cached unless C = 2 (20:R115
to R117). Where the translation raises an exception, here or for an address outside the segments, every load, store and CACHE
operation that gets as far as translating, and the fetch, takes exactly that exception (20:R103, R118, 60:R416 to R418); TLB change
is raised for stores only, so never for CACHE (45:R370). -/
def Obligations.MappedTranslation : Prop :=
  (∀ (base rt : Reg) (offset : BitVec 16) (s : State) (e : Exc),
    let va := s.effectiveAddress base offset
    (s.translate va .load = .raise e s →
      (∀ i, i ∈ s.loadForms base rt offset → exec i s = .next (s.takeException e))
      ∧ (s.cp0Usable = true → ∀ i, i ∈ cacheForms base offset → exec i s = .next (s.takeException e)))
    ∧ (s.translate va .store = .raise e s → ∀ i, i ∈ s.storeForms base rt offset → exec i s = .next (s.takeException e))
    ∧ (s.pc.toNat % 4 = 0 → s.translate s.pc .fetch = .raise e s → s.runInstruction = .next (s.takeException e)))
  ∧ (∀ (va w : DWord) (k : AccessKind) (s u : State), s.translate va k = .raise (.tlbMod w) u → k = .store)
  ∧ ∀ (va : DWord) (k : AccessKind) (s : State),
    s.mode ≠ .undefined → (s.is64bitAddr = true ∨ isWord va = true) → s.segment va = some .mapped →
    let hits (i : Fin 32) : Prop :=
      let e := s.tlb[i]
      let keep : BitVec 29 := ~~~(e.mask.setWidth 29)
      e.r = va.extractLsb' 62 2 ∧ e.vpn2 &&& keep = va.extractLsb' 11 29 &&& keep
        ∧ (e.g = true ∨ e.asid = s.cp0.entryHi.asid)
    ((∀ i, ¬hits i) → s.translate va k = .raise (.tlbRefill va k) s)
    ∧ ∀ i, hits i → (∀ j, hits j → j = i) → legalMask (s.tlb[i]).mask = true →
      let b := pageBits (s.tlb[i]).mask
      let page := if va.toNat / 2 ^ b % 2 = 1 then (s.tlb[i]).odd else (s.tlb[i]).even
      (page.v = false → s.translate va k = .raise (.tlbInvalid va k) s)
      ∧ (page.v = true → k = .store → page.d = false → s.translate va k = .raise (.tlbMod va) s)
      ∧ (page.v = true → (k = .store → page.d = true) →
          ∃ pa : PAddr, s.translate va k = .ok { pa := pa, cached := page.c != 2 } s
            ∧ pa.toNat = page.pfn.toNat / 2 ^ (b - 10) * 2 ^ b + va.toNat % 2 ^ b)

/-- The segments of the modes: which ranges are unmapped and to what physical address, which are mapped, and that an address
outside the segments of the mode raises an address error (20:R103 to R108; for an address that is no sign-extended word in a
32-bit space this is log 6). That an instruction takes the exception its translation raises is MappedTranslation. -/
def Obligations.Segments : Prop :=
  ∀ (va : DWord) (k : AccessKind) (s : State),
    let a : Nat := va.toNat
    let mapped : Prop := s.translate va k = s.translateMapped va k
    let outside : Prop := s.translate va k = .raise (.addressError va k) s
    (s.mode = .kernel →
      (0xFFFFFFFF80000000 ≤ a → a ≤ 0xFFFFFFFF9FFFFFFF →
        ∃ pa : PAddr, s.translate va k = .ok { pa := pa, cached := s.cp0.config.k0 != 2 } s
          ∧ pa.toNat = a - 0xFFFFFFFF80000000)
      ∧ (0xFFFFFFFFA0000000 ≤ a → a ≤ 0xFFFFFFFFBFFFFFFF →
        ∃ pa : PAddr, s.translate va k = .ok { pa := pa, cached := false } s ∧ pa.toNat = a - 0xFFFFFFFFA0000000)
      ∧ (0xFFFFFFFFC0000000 ≤ a → mapped)
      ∧ (s.cp0.status.erl = true → a ≤ 0x7FFFFFFF →
        ∃ pa : PAddr, s.translate va k = .ok { pa := pa, cached := false } s ∧ pa.toNat = a)
      ∧ (s.cp0.status.erl = false ∨ 0x7FFFFFFF < a → a ≤ (if s.cp0.status.kx then 0xFFFFFFFFFF else 0x7FFFFFFF) → mapped)
      ∧ (s.cp0.status.kx = true →
        (a / 2 ^ 62 = 2 → a / 2 ^ 32 % 2 ^ 27 = 0 →
          ∃ pa : PAddr, s.translate va k = .ok { pa := pa, cached := a / 2 ^ 59 % 8 != 2 } s ∧ pa.toNat = a % 2 ^ 32)
        ∧ (a / 2 ^ 62 = 2 → a / 2 ^ 32 % 2 ^ 27 ≠ 0 → outside)
        ∧ (0x4000000000000000 ≤ a → a ≤ 0x400000FFFFFFFFFF → mapped)
        ∧ (0xC000000000000000 ≤ a → a ≤ 0xC00000FF7FFFFFFF → mapped)
        ∧ (0xFFFFFFFFFF < a → a < 0x4000000000000000 → outside)
        ∧ (0x400000FFFFFFFFFF < a → a < 0x8000000000000000 → outside)
        ∧ (0xC00000FF7FFFFFFF < a → a < 0xFFFFFFFF80000000 → outside))
      ∧ (s.cp0.status.kx = false → 0x7FFFFFFF < a → a < 0xFFFFFFFF80000000 → outside))
    ∧ (s.mode = .user →
      (a ≤ (if s.cp0.status.ux then 0xFFFFFFFFFF else 0x7FFFFFFF) → mapped)
      ∧ ((if s.cp0.status.ux then 0xFFFFFFFFFF else 0x7FFFFFFF) < a → outside))
    ∧ (s.mode = .supervisor →
      let low : Prop := a ≤ (if s.cp0.status.sx then 0xFFFFFFFFFF else 0x7FFFFFFF)
      let sseg : Prop := 0xFFFFFFFFC0000000 ≤ a ∧ a ≤ 0xFFFFFFFFDFFFFFFF
      let xsseg : Prop := s.cp0.status.sx = true ∧ 0x4000000000000000 ≤ a ∧ a ≤ 0x400000FFFFFFFFFF
      (low ∨ sseg ∨ xsseg → mapped) ∧ (¬low → ¬sseg → ¬xsseg → outside))

/-- A load or store of any width that touches the watched doubleword raises Watch instead of being made, at whatever address its
alignment allows; BadVAddr is not written; a fetch never matches (60:R445). At exception or error level the match is refused
(U18, log 31). -/
def Obligations.WatchException : Prop :=
  ∀ (base rt : Reg) (offset : BitVec 16) (s : State) (tr : Translation),
    let va := s.effectiveAddress base offset
    let ends (i : Instr) : Prop :=
      exec i s = if s.cp0.status.exl || s.cp0.status.erl then .refused .watchAtExceptionLevel
        else .next (s.takeException .watch)
    (∀ pa k, s.watchMatch pa k = true ↔
      pa.toNat / 8 = s.cp0.watchLo.paddr0.toNat
        ∧ ((k = .load ∧ s.cp0.watchLo.r = true) ∨ (k = .store ∧ s.cp0.watchLo.w = true)))
    ∧ (s.takeException .watch).cp0.badVAddr = s.cp0.badVAddr
    ∧ (s.Clean →
      (s.translate va .load = .ok tr s → s.watchMatch tr.pa .load = true → ∀ i, i ∈ s.loadForms base rt offset → ends i)
      ∧ (s.translate va .store = .ok tr s → s.watchMatch tr.pa .store = true → ∀ i, i ∈ s.storeForms base rt offset → ends i))

/-- What a move to a CP0 register changes of what the register reads: the bits of the table of 45:R383 and no others. The
positions of Config's and TagLo's fields are the layouts of log 7 and log 8. -/
def Obligations.Cp0WriteFields : Prop :=
  ∀ (rd : Reg) (w : DWord) (s : State), rd ≠ 1 →
    (s.cp0Write rd w).cp0Read rd = (s.cp0Read rd &&& ~~~cp0WriteMask rd) ||| (w &&& cp0WriteMask rd)

/-- The CP0 moves where CP0 is usable and the register exists: MFC0 gives the low word sign-extended, DMFC0 all 64 bits; MTC0 and
DMTC0 write the writable bits, all other registers read as before; a write of Wired sets Random to 31, one of Compare clears
the timer request (45:R361 to R364, R383). The positions of the fields of Config and TagLo, and so the bits they read and write,
are the layouts of log 7 and log 8. Of a register that is no word, MTC0 writes an open upper half (U15, log 21); a Status that
would name no operating mode is refused (U17, log 30). -/
def Obligations.Cp0Moves : Prop :=
  ∀ (rt rd : Reg) (s : State), s.cp0Usable = true → s.mode ≠ .undefined → cp0Unused rd = false →
    WritesRegister (exec (.mfc0 rt rd) s) s rt (sext32 (low32 (s.cp0Read rd)))
    ∧ ((rd = 12 → (Status.write (s.reg rt) s.cp0.status).mode ≠ .undefined) →
        ∃ v, low32 v = low32 (s.reg rt) ∧ (isWord (s.reg rt) = true → v = s.reg rt)
          ∧ WritesCp0Register (exec (.mtc0 rt rd) s) s rd v)
    ∧ (rd = 12 → (Status.write (s.reg rt) s.cp0.status).mode = .undefined → exec (.mtc0 rt rd) s = .refused .undefinedMode)
    ∧ (s.is64bitOps = true → cp0Wide rd = true →
        WritesRegister (exec (.dmfc0 rt rd) s) s rt (s.cp0Read rd)
        ∧ WritesCp0Register (exec (.dmtc0 rt rd) s) s rd (s.reg rt))

/-- The TLB instructions where CP0 is usable: TLBWI and TLBWR write the entry Index or Random names, G the AND of the two G bits;
TLBR reads it back; TLBP finds the one matching entry, or sets P (45:R365 to R368). Index.Index after a miss is open (log 22). -/
def Obligations.TlbInstructions : Prop :=
  ∀ s : State, s.cp0Usable = true →
    let c := s.cp0
    let e : TlbEntry :=
      { mask := c.pageMask, r := c.entryHi.r, vpn2 := c.entryHi.vpn2, asid := c.entryHi.asid,
        g := c.entryLo0.g && c.entryLo1.g
        even := { pfn := c.entryLo0.pfn, c := c.entryLo0.c, d := c.entryLo0.d, v := c.entryLo0.v }
        odd := { pfn := c.entryLo1.pfn, c := c.entryLo1.c, d := c.entryLo1.d, v := c.entryLo1.v } }
    let f := s.tlbEntry c.index.index
    let random := nextRandom c.random c.wired
    (legalMask c.pageMask = true →
      WritesTlbEntry (exec .tlbwi s) s c.index.index e ∧ WritesTlbEntry (exec .tlbwr s) s c.random e
      ∧ ∀ t, exec .tlbwi s = .next t → ∃ u, exec .tlbr t = .next u
          ∧ u.cp0.pageMask = c.pageMask ∧ u.cp0.entryHi = c.entryHi
          ∧ u.cp0.entryLo0 = { c.entryLo0 with g := c.entryLo0.g && c.entryLo1.g }
          ∧ u.cp0.entryLo1 = { c.entryLo1 with g := c.entryLo0.g && c.entryLo1.g })
    ∧ ChangesCp0 (exec .tlbr s) s { c with
        random := random
        pageMask := f.mask
        entryHi := { r := f.r, vpn2 := f.vpn2, asid := f.asid }
        entryLo0 := { pfn := f.even.pfn, c := f.even.c, d := f.even.d, v := f.even.v, g := f.g }
        entryLo1 := { pfn := f.odd.pfn, c := f.odd.c, d := f.odd.d, v := f.odd.v, g := f.g } }
    ∧ (s.tlbMatches c.entryHi.r c.entryHi.vpn2 = [] →
        ∃ n, ChangesCp0 (exec .tlbp s) s { c with random := random, index := { p := true, index := n } })
    ∧ (∀ i, s.tlbMatches c.entryHi.r c.entryHi.vpn2 = [i] →
        ChangesCp0 (exec .tlbp s) s { c with random := random, index := { p := false, index := BitVec.ofFin i } })
    ∧ (∀ i j ms, s.tlbMatches c.entryHi.r c.entryHi.vpn2 = i :: j :: ms → exec .tlbp s = .next s.tlbShutdown)

/-- CP0 is usable in kernel mode or with CU0 = 1; elsewhere every word with the opcode of COP0 or CACHE raises CpU(0), also one
that names no instruction (45:R360). -/
def Obligations.CoprocessorUnusable : Prop :=
  ∀ (w : Word32) (s : State),
    (s.cp0Usable = true ↔ s.mode = .kernel ∨ s.cp0.status.cu0 = true)
    ∧ (s.cp0Usable = false → w.extractLsb' 26 6 = 0x10 ∨ w.extractLsb' 26 6 = 0x2F →
        s.execWord w = .next (s.takeException (.cpU 0)) ∧ (s.takeException (.cpU 0)).cp0.cause.excCode = 11
        ∧ (s.takeException (.cpU 0)).cp0.cause.ce = 0)

/-- The CACHE tag operations on a line whose tag parity is right: Index_Load_Tag puts the line's tag into TagLo; Index_Store_Tag
puts TagLo's into the line, the tag parity generated unless CE = 1, the data kept (45:R373, R374); that W' is generated with CE = 1
too is a choice of the model (DESIGN CHOICE, log 36). TagLo.D, the W bits of the instruction cache and Parity Error are open
(log 25). -/
def Obligations.CacheTags : Prop :=
  ∀ (base : Reg) (offset : BitVec 16) (s : State) (tr : Translation),
    let va := s.effectiveAddress base offset
    let il := s.iLine (iIndex va)
    let dl := s.dLine (va.extractLsb' 4 6)
    let tag := s.cp0.tagLo
    let p := if s.cp0.status.ce then tag.p else evenParity tag.ptag
    s.cp0Usable = true → s.translate va .load = .ok tr s →
      (∃ x pe, x.ptag = il.ptag ∧ x.v = il.v ∧ x.p = il.p
        ∧ ChangesCp0 (exec (.cacheIndexLoadTagI base offset) s) s
          { s.cp0 with random := nextRandom s.cp0.random s.cp0.wired, tagLo := x, parityErr := pe })
      ∧ (∃ x pe, x.ptag = dl.ptag ∧ x.v = dl.v ∧ x.p = dl.p ∧ x.w = dl.w ∧ x.wPrime = dl.wPrime
        ∧ ChangesCp0 (exec (.cacheIndexLoadTagD base offset) s) s
          { s.cp0 with random := nextRandom s.cp0.random s.cp0.wired, tagLo := x, parityErr := pe })
      ∧ (s.cp0.status.de = true ∨ il.tagError = false →
        OperatesCaches (exec (.cacheIndexStoreTagI base offset) s) s fun t =>
          ReplacesILine (iIndex va) { il with ptag := tag.ptag, v := tag.v, p := p } s t ∧ t.mem = s.mem)
      ∧ (s.cp0.status.de = true ∨ dl.tagError = false →
        OperatesCaches (exec (.cacheIndexStoreTagD base offset) s) s fun t =>
          ReplacesDLine (va.extractLsb' 4 6) { dl with ptag := tag.ptag, v := tag.v, p := p, w := tag.w, wPrime := tag.w } s t
          ∧ t.mem = s.mem)

/-- The CACHE operations of the instruction cache on a line whose tag parity is right: Index_Invalidate, Hit_Invalidate, Fill from
memory, Hit_WriteBack (45:R371, R376, R378, R380). The data parity of a filled line comes from Parity Error; that its tag parity
is generated, also with CE = 1, is a choice of the model (DESIGN CHOICE, log 36). -/
def Obligations.CacheInstructionOps : Prop :=
  ∀ (base : Reg) (offset : BitVec 16) (s : State) (tr : Translation),
    let va := s.effectiveAddress base offset
    let l := s.iLine (iIndex va)
    let hit : Prop := l.v = true ∧ l.ptag = tr.pa.extractLsb' 10 22
    s.cp0Usable = true → s.translate va .load = .ok tr s → s.cp0.status.de = true ∨ l.tagError = false →
      OperatesCaches (exec (.cacheIndexInvalidateI base offset) s) s (fun t =>
        ReplacesILine (iIndex va) { l with v := false } s t ∧ t.mem = s.mem)
      ∧ OperatesCaches (exec (.cacheHitInvalidateI base offset) s) s (fun t =>
        (hit → ReplacesILine (iIndex va) { l with v := false } s t) ∧ (¬hit → t.icache = s.icache ∧ t.dcache = s.dcache)
        ∧ t.mem = s.mem)
      ∧ (s.busErrors = [] → s.badParity = [] → s.noResponse = [] →
        OperatesCaches (exec (.cacheFillI base offset) s) s (fun t =>
          ∃ m, ReplacesILine (iIndex va) m s t ∧ t.mem = s.mem ∧ m.ptag = tr.pa.extractLsb' 10 22 ∧ m.v = true
            ∧ m.tagError = false ∧ ∀ k : Fin 16, m.data[k] = s.mem.read (lineByte (tr.pa.extractLsb' 4 28) k.val)))
      ∧ (s.mem.wf = true →
        OperatesCaches (exec (.cacheHitWriteBackI base offset) s) s (fun t =>
          (hit → LineWritten (tr.pa.extractLsb' 4 28) l.data s t) ∧ (¬hit → t.mem = s.mem)
          ∧ t.icache = s.icache ∧ t.dcache = s.dcache))

/-- The CACHE operations of the data cache on a line whose tag parity is right: what becomes of the line, and which line of memory
is written (45:R372, R375, R377, R379, R381); a write-back leaves the line clean (20:R144). That Create_Dirty generates the tag
parity P and sets W' to W, also with CE = 1, is a choice of the model (DESIGN CHOICE, log 36): 45:R375 names no P. -/
def Obligations.CacheDataOps : Prop :=
  ∀ (base : Reg) (offset : BitVec 16) (s : State) (tr : Translation),
    let va := s.effectiveAddress base offset
    let i := va.extractLsb' 4 6
    let l := s.dLine i
    let tag := tr.pa.extractLsb' 10 22
    let hit : Prop := l.v = true ∧ l.ptag = tag
    let dirty : Prop := l.v = true ∧ l.w = true
    let wroteBack (t : State) : Prop := LineWritten (l.ptag ++ i) l.data s t
    let kept (t : State) : Prop := t.dcache = s.dcache ∧ t.icache = s.icache ∧ t.mem = s.mem
    s.cp0Usable = true → s.translate va .load = .ok tr s → s.cp0.status.de = true ∨ l.tagError = false → s.mem.wf = true →
      OperatesCaches (exec (.cacheIndexWriteBackInvalidateD base offset) s) s (fun t =>
        (dirty → wroteBack t ∧ ReplacesDLine i { l with v := false, w := false, wPrime := false } s t)
        ∧ (¬dirty → t.mem = s.mem ∧ ReplacesDLine i { l with v := false } s t))
      ∧ OperatesCaches (exec (.cacheHitWriteBackInvalidateD base offset) s) s (fun t =>
        (hit → l.w = true → wroteBack t ∧ ReplacesDLine i { l with v := false, w := false, wPrime := false } s t)
        ∧ (hit → l.w = false → t.mem = s.mem ∧ ReplacesDLine i { l with v := false } s t) ∧ (¬hit → kept t))
      ∧ OperatesCaches (exec (.cacheHitWriteBackD base offset) s) s (fun t =>
        (hit → l.w = true → wroteBack t ∧ ReplacesDLine i { l with w := false, wPrime := false } s t)
        ∧ (¬(hit ∧ l.w = true) → kept t))
      ∧ OperatesCaches (exec (.cacheHitInvalidateD base offset) s) s (fun t =>
        (hit → t.mem = s.mem ∧ ReplacesDLine i { l with v := false } s t) ∧ (¬hit → kept t))
      ∧ OperatesCaches (exec (.cacheCreateDirtyD base offset) s) s (fun t =>
        ReplacesDLine i { l with ptag := tag, v := true, p := evenParity tag, w := true, wPrime := true } s t
        ∧ (dirty → l.ptag ≠ tag → wroteBack t) ∧ (¬dirty ∨ l.ptag = tag → t.mem = s.mem))

/-- STANDBY, SUSPEND and HIBERNATE complete, and the power mode changes (46:R390 to R392). -/
def Obligations.PowerInstructions : Prop :=
  ∀ (i : Instr) (m : PowerMode) (s : State), s.cp0Usable = true →
    (i = .standby ∧ m = .standby) ∨ (i = .suspend ∧ m = .suspend) ∨ (i = .hibernate ∧ m = .hibernate) →
    ∃ t, exec i s = .next t ∧ t.powerMode = m ∧ t.pc = s.npc ∧ t.npc = s.npc + 4 ∧ t.ds = false
      ∧ t.cp0 = { s.cp0 with random := nextRandom s.cp0.random s.cp0.wired } ∧ t.tlb = s.tlb
      ∧ KeepsRegs [] s t ∧ KeepsHiLo s t ∧ KeepsMemory s t

/-- In user and supervisor mode without CU0 no instruction changes a CP0 register but Random, the TLB, the power mode or the
interrupt inputs, unless it ends in an exception, TLB shutdown or a hang, and up to that end it has changed none of them
either: that is what CU0 protects (60:R431). What the segment check and the TLB protect is Segments and MappedTranslation. -/
def Obligations.Protection : Prop :=
  ∀ (i : Instr) (s t : State), s.mode = .user ∨ s.mode = .supervisor → s.cp0.status.cu0 = false → exec i s = .next t →
    KeepsControl s t ∨ EndsEarly s t

/-- An instruction other than ERET and MTC0 to Status never leaves kernel mode, and changes the mode only by ending in an
exception, which goes to kernel mode (60:R430, R431). Those two may change it without one: ERET, and MTC0 to Status, in user and
supervisor mode too where CU0 = 1 (45:R360, R383). -/
def Obligations.ModeChanges : Prop :=
  ∀ (i : Instr) (s t : State), exec i s = .next t → i ≠ .eret → (∀ rt, i ≠ .mtc0 rt 12) →
    (s.mode = .kernel → t.mode = .kernel)
    ∧ (t.mode ≠ s.mode → t.mode = .kernel
        ∧ ∃ (e : Exc) (u : State), KeepsControl s u ∧ u.cp0 = s.cp0 ∧ t = u.takeException e)
end

