-- ==== Sys2Proof/Laws/Decode.lean ====
section
/-! SUPPORT. The fields of a word built from fields, once for each format (30:R161), so that a proof about encode and decode
never takes a word apart. -/

namespace Sys2Proof

/-- A slice that lies in the lower part of a concatenation. -/
theorem extract_append_low {w v : Nat} (x : BitVec w) (y : BitVec v) (k m : Nat) (h : k + m ≤ v) :
    (x ++ y).extractLsb' k m = y.extractLsb' k m := by
  apply BitVec.eq_of_getLsbD_eq
  intro i hi
  have hlt : k + i < v := by omega
  simp [BitVec.getLsbD_append, hi, hlt]

/-- A slice that lies in the upper part of a concatenation. -/
theorem extract_append_high {w v : Nat} (x : BitVec w) (y : BitVec v) (k m : Nat) (h : v ≤ k) :
    (x ++ y).extractLsb' k m = x.extractLsb' (k - v) m := by
  apply BitVec.eq_of_getLsbD_eq
  intro i hi
  have hge : ¬k + i < v := by omega
  simp only [BitVec.getLsbD_extractLsb', hi, decide_true, Bool.true_and, BitVec.getLsbD_append, hge, if_false]
  rw [show k + i - v = k - v + i by omega]

/-- The whole slice. -/
theorem extract_whole {w : Nat} (x : BitVec w) : x.extractLsb' 0 w = x := by simp

/-- Two neighbouring slices, put together. -/
theorem extract_append_extract {w : Nat} (x : BitVec w) (k m n : Nat) :
    x.extractLsb' (k + m) n ++ x.extractLsb' k m = x.extractLsb' k (n + m) := by
  apply BitVec.eq_of_getLsbD_eq
  intro i hi
  rw [BitVec.getLsbD_append, BitVec.getLsbD_extractLsb', BitVec.getLsbD_extractLsb', BitVec.getLsbD_extractLsb']
  by_cases h : i < m
  · simp [h, hi]
  · have hn : i - m < n := by omega
    simp [h, hi, hn, show k + m + (i - m) = k + i by omega]

section

variable (op : BitVec 6) (rs rt rd : Reg) (imm : BitVec 16) (sa : BitVec 5) (funct : BitVec 6)

theorem iType_op : (iType op rs rt imm).extractLsb' 26 6 = op :=
  (extract_append_high (op ++ rs ++ rt) imm 26 6 (by omega)).trans <|
    (extract_append_high (op ++ rs) rt 10 6 (by omega)).trans <|
      (extract_append_high op rs 5 6 (by omega)).trans (extract_whole op)

theorem iType_rs : (iType op rs rt imm).extractLsb' 21 5 = rs :=
  (extract_append_high (op ++ rs ++ rt) imm 21 5 (by omega)).trans <|
    (extract_append_high (op ++ rs) rt 5 5 (by omega)).trans <|
      (extract_append_low op rs 0 5 (by omega)).trans (extract_whole rs)

theorem iType_rt : (iType op rs rt imm).extractLsb' 16 5 = rt :=
  (extract_append_high (op ++ rs ++ rt) imm 16 5 (by omega)).trans <|
    (extract_append_low (op ++ rs) rt 0 5 (by omega)).trans (extract_whole rt)

theorem iType_imm : (iType op rs rt imm).extractLsb' 0 16 = imm :=
  (extract_append_low (op ++ rs ++ rt) imm 0 16 (by omega)).trans (extract_whole imm)

theorem decode_iType : decode (iType op rs rt imm) = decodeFields op rs rt imm := by
  unfold decode
  rw [iType_op, iType_rs, iType_rt, iType_imm]

theorem decode_rType : decode (rType rs rt rd sa funct) = decodeSpecial rs rt rd sa funct := by
  have hrd : (rd ++ sa ++ funct : BitVec 16).extractLsb' 11 5 = rd :=
    (extract_append_high (rd ++ sa) funct 11 5 (by omega)).trans <|
      (extract_append_high rd sa 5 5 (by omega)).trans (extract_whole rd)
  have hsa : (rd ++ sa ++ funct : BitVec 16).extractLsb' 6 5 = sa :=
    (extract_append_high (rd ++ sa) funct 6 5 (by omega)).trans <|
      (extract_append_low rd sa 0 5 (by omega)).trans (extract_whole sa)
  have hfn : (rd ++ sa ++ funct : BitVec 16).extractLsb' 0 6 = funct :=
    (extract_append_low (rd ++ sa) funct 0 6 (by omega)).trans (extract_whole funct)
  unfold rType
  rw [decode_iType]
  simp only [decodeFields, hrd, hsa, hfn]
  rfl

end

end Sys2Proof
end

