-- ==== Sys2Proof/Laws/Memory.lean ====
section
/-! SUPPORT. External memory: every operation keeps the canonical form, a read after a write to the same address gives the
byte written, and a write leaves every other address alone (20:R100). -/

namespace Sys2Proof.Machine

theorem cellsWf_mono {lo lo' : Nat} (h : lo ≤ lo') : ∀ {cs : List Host.Cell}, cellsWf lo' cs = true → cellsWf lo cs = true
  | [], _ => rfl
  | (a, b) :: cs, hw => by
    simp only [cellsWf, Bool.and_eq_true, decide_eq_true_eq] at hw ⊢
    exact ⟨⟨⟨by omega, hw.1.1.2⟩, hw.1.2⟩, hw.2⟩

theorem cellsWf_cons {lo a : Nat} {b : Byte} {cs : List Host.Cell} :
    cellsWf lo ((a, b) :: cs) = true ↔ lo ≤ a ∧ a < 2 ^ 32 ∧ b ≠ unlistedByte ∧ cellsWf (a + 1) cs = true := by
  simp only [cellsWf, Bool.and_eq_true, decide_eq_true_eq]
  tauto

/-- A write keeps the canonical form. -/
theorem cellsWf_writeCells {k : Nat} {b : Byte} (hk : k < 2 ^ 32) :
    ∀ {cs : List Host.Cell} {lo : Nat}, lo ≤ k → cellsWf lo cs = true → cellsWf lo (writeCells cs k b) = true
  | [], lo, hlo, _ => by
    unfold writeCells
    split
    · rfl
    · exact cellsWf_cons.2 ⟨hlo, hk, ‹_›, rfl⟩
  | (a, c) :: cs, lo, hlo, hw => by
    obtain ⟨h1, h2, h3, h4⟩ := cellsWf_cons.1 hw
    unfold writeCells
    split
    · split
      · exact hw
      · exact cellsWf_cons.2 ⟨hlo, hk, ‹_›, cellsWf_cons.2 ⟨by omega, h2, h3, h4⟩⟩
    · split
      · split
        · exact cellsWf_mono (by omega) h4
        · subst_vars
          exact cellsWf_cons.2 ⟨h1, h2, ‹_›, h4⟩
      · exact cellsWf_cons.2 ⟨h1, h2, h3, cellsWf_writeCells hk (by omega) h4⟩

/-- Below the lowest address of a canonical list every address is unlisted. -/
theorem readCells_below : ∀ {cs : List Host.Cell} {lo k : Nat}, cellsWf lo cs = true → k < lo → readCells cs k = unlistedByte
  | [], _, _, _, _ => rfl
  | (a, b) :: cs, lo, k, hw, hk => by
    have := (cellsWf_cons.1 hw).1
    unfold readCells
    rw [if_pos (by omega)]

theorem readCells_writeCells_same {k : Nat} {b : Byte} :
    ∀ {cs : List Host.Cell} {lo : Nat}, cellsWf lo cs = true → readCells (writeCells cs k b) k = b
  | [], _, _ => by
    unfold writeCells
    split
    · rw [‹b = _›]; rfl
    · simp [readCells]
  | (a, c) :: cs, lo, hw => by
    obtain ⟨-, -, -, h4⟩ := cellsWf_cons.1 hw
    unfold writeCells
    split
    · split
      · rw [readCells, if_pos ‹_›]; exact Eq.symm ‹_›
      · simp [readCells]
    · split
      · split
        · subst_vars
          exact readCells_below h4 (Nat.lt_succ_self _)
        · simp [readCells]
      · rw [readCells, if_neg ‹_›, if_neg ‹_›]
        exact readCells_writeCells_same h4

theorem readCells_writeCells_other {k j : Nat} {b : Byte} (h : j ≠ k) :
    ∀ {cs : List Host.Cell} {lo : Nat}, cellsWf lo cs = true → readCells (writeCells cs k b) j = readCells cs j
  | [], _, _ => by
    unfold writeCells
    split
    · rfl
    · simp only [readCells]
      split
      · rfl
      · rw [if_neg (by omega)]
  | (a, c) :: cs, lo, hw => by
    obtain ⟨-, -, -, h4⟩ := cellsWf_cons.1 hw
    unfold writeCells
    split
    · split
      · rfl
      · simp only [readCells]
        by_cases hj : j < k
        · rw [if_pos hj, if_pos (by omega)]
        · rw [if_neg hj, if_neg (show ¬k = j by omega)]
    · split
      · split
        · subst_vars
          rw [readCells]
          by_cases hj : j < a
          · rw [if_pos hj]
            exact readCells_below h4 (by omega)
          · rw [if_neg hj, if_neg (show ¬a = j by omega)]
        · subst_vars
          simp only [readCells]
          rw [if_neg (show ¬a = j by omega), if_neg (show ¬a = j by omega)]
      · simp only [readCells]
        rw [readCells_writeCells_other h h4]

/-- A write keeps memory canonical. -/
theorem Memory.wf_write {m : Memory} (a : PAddr) (b : Byte) (h : m.wf = true) : (m.write a b).wf = true :=
  cellsWf_writeCells a.isLt (Nat.zero_le _) h

/-- A byte reads as it was written. -/
theorem Memory.read_write_same {m : Memory} (a : PAddr) (b : Byte) (h : m.wf = true) : (m.write a b).read a = b :=
  readCells_writeCells_same h

/-- A write leaves every other byte alone. -/
theorem Memory.read_write_other {m : Memory} {a a' : PAddr} (b : Byte) (h : m.wf = true) (hne : a' ≠ a) :
    (m.write a b).read a' = m.read a' :=
  readCells_writeCells_other (fun e => hne (BitVec.eq_of_toNat_eq e)) h

/-- Several writes keep memory canonical. -/
theorem Memory.wf_writeAll (ws : List (PAddr × Byte)) : ∀ {m : Memory}, m.wf = true → (m.writeAll ws).wf = true := by
  induction ws with
  | nil => exact fun h => h
  | cons w ws ih => exact fun h => ih (Memory.wf_write w.1 w.2 h)

/-- Several writes leave every address they do not name alone. -/
theorem Memory.read_writeAll_other (ws : List (PAddr × Byte)) {a : PAddr} (ha : a ∉ ws.map Prod.fst) :
    ∀ {m : Memory}, m.wf = true → (m.writeAll ws).read a = m.read a := by
  induction ws with
  | nil => exact fun _ => rfl
  | cons w ws ih =>
    intro m h
    rw [List.map_cons, List.mem_cons, not_or] at ha
    exact (ih ha.2 (Memory.wf_write w.1 w.2 h)).trans (Memory.read_write_other w.2 h ha.1)

/-- A line write keeps memory canonical. -/
theorem Memory.wf_writeLine {m : Memory} (line : BitVec 28) (data : Vector Byte 16) (h : m.wf = true) :
    (m.writeLine line data).wf = true :=
  Memory.wf_writeAll _ h

/-- Memory that has received some of another one's bytes is canonical, and each of its bytes is the old one or the new one. -/
theorem Memory.receive_spec {m : Memory} (new : Memory) (received : PAddr → Bool) (h : m.wf = true) :
    (m.receive new received).wf = true
      ∧ ∀ a, (m.receive new received).read a = m.read a ∨ (m.receive new received).read a = new.read a := by
  unfold Memory.receive
  generalize m.cells ++ new.cells = cs
  induction cs generalizing m with
  | nil => exact ⟨h, fun _ => .inl rfl⟩
  | cons c cs ih =>
    rw [List.foldl_cons]
    dsimp only
    split
    · have g := ih (Memory.wf_write (BitVec.ofNat 32 c.1) (new.read (BitVec.ofNat 32 c.1)) h)
      refine ⟨g.1, fun a => (g.2 a).elim (fun e => ?_) .inr⟩
      rw [e]
      by_cases ha : a = BitVec.ofNat 32 c.1
      · rw [ha, Memory.read_write_same _ _ h]; exact .inr rfl
      · exact .inl (Memory.read_write_other _ h ha)
    · exact ih h

end Sys2Proof.Machine
end

