-- ==== Sys2Proof/Laws/State.lean ====
section
/-! SUPPORT. One lemma for each field and each update of the state, true by definition, so that no proof unfolds a record
update. -/

namespace Sys2Proof.Machine

section

variable (s : State) (f : Cp0 → Cp0)

@[simp] theorem State.mapCp0_pc : (s.mapCp0 f).pc = s.pc := rfl
@[simp] theorem State.mapCp0_npc : (s.mapCp0 f).npc = s.npc := rfl
@[simp] theorem State.mapCp0_ds : (s.mapCp0 f).ds = s.ds := rfl
@[simp] theorem State.mapCp0_gpr : (s.mapCp0 f).gpr = s.gpr := rfl
@[simp] theorem State.mapCp0_hi : (s.mapCp0 f).hi = s.hi := rfl
@[simp] theorem State.mapCp0_lo : (s.mapCp0 f).lo = s.lo := rfl
@[simp] theorem State.mapCp0_tlb : (s.mapCp0 f).tlb = s.tlb := rfl
@[simp] theorem State.mapCp0_icache : (s.mapCp0 f).icache = s.icache := rfl
@[simp] theorem State.mapCp0_dcache : (s.mapCp0 f).dcache = s.dcache := rfl
@[simp] theorem State.mapCp0_powerMode : (s.mapCp0 f).powerMode = s.powerMode := rfl
@[simp] theorem State.mapCp0_timerPending : (s.mapCp0 f).timerPending = s.timerPending := rfl
@[simp] theorem State.mapCp0_nmiPending : (s.mapCp0 f).nmiPending = s.nmiPending := rfl
@[simp] theorem State.mapCp0_softReset : (s.mapCp0 f).softReset = s.softReset := rfl
@[simp] theorem State.mapCp0_coldReset : (s.mapCp0 f).coldReset = s.coldReset := rfl
@[simp] theorem State.mapCp0_intPins : (s.mapCp0 f).intPins = s.intPins := rfl
@[simp] theorem State.mapCp0_intReg : (s.mapCp0 f).intReg = s.intReg := rfl
@[simp] theorem State.mapCp0_pins : (s.mapCp0 f).pins = s.pins := rfl
@[simp] theorem State.mapCp0_mem : (s.mapCp0 f).mem = s.mem := rfl
@[simp] theorem State.mapCp0_busErrors : (s.mapCp0 f).busErrors = s.busErrors := rfl
@[simp] theorem State.mapCp0_badParity : (s.mapCp0 f).badParity = s.badParity := rfl
@[simp] theorem State.mapCp0_noResponse : (s.mapCp0 f).noResponse = s.noResponse := rfl
@[simp] theorem State.mapCp0_unchecked : (s.mapCp0 f).unchecked = s.unchecked := rfl
@[simp] theorem State.mapCp0_hung : (s.mapCp0 f).hung = s.hung := rfl
@[simp] theorem State.mapCp0_busParityOff : (s.mapCp0 f).busParityOff = s.busParityOff := rfl
@[simp] theorem State.mapCp0_inputs : (s.mapCp0 f).inputs = s.inputs := rfl
@[simp] theorem State.mapCp0_hiLo : (s.mapCp0 f).hiLo = s.hiLo := rfl
@[simp] theorem State.mapCp0_hiLoPrev : (s.mapCp0 f).hiLoPrev = s.hiLoPrev := rfl
@[simp] theorem State.mapCp0_hiLoSaved : (s.mapCp0 f).hiLoSaved = s.hiLoSaved := rfl
@[simp] theorem State.mapCp0_mdBusy : (s.mapCp0 f).mdBusy = s.mdBusy := rfl
@[simp] theorem State.mapCp0_trapped : (s.mapCp0 f).trapped = s.trapped := rfl
@[simp] theorem State.mapCp0_freeCount : (s.mapCp0 f).freeCount = s.freeCount := rfl
@[simp] theorem State.mapCp0_reg (r : Reg) : (s.mapCp0 f).reg r = s.reg r := rfl

end

section

variable (s : State) (f : Memory → Memory)

@[simp] theorem State.mapMem_pc : (s.mapMem f).pc = s.pc := rfl
@[simp] theorem State.mapMem_npc : (s.mapMem f).npc = s.npc := rfl
@[simp] theorem State.mapMem_ds : (s.mapMem f).ds = s.ds := rfl
@[simp] theorem State.mapMem_gpr : (s.mapMem f).gpr = s.gpr := rfl
@[simp] theorem State.mapMem_hi : (s.mapMem f).hi = s.hi := rfl
@[simp] theorem State.mapMem_lo : (s.mapMem f).lo = s.lo := rfl
@[simp] theorem State.mapMem_cp0 : (s.mapMem f).cp0 = s.cp0 := rfl
@[simp] theorem State.mapMem_tlb : (s.mapMem f).tlb = s.tlb := rfl
@[simp] theorem State.mapMem_icache : (s.mapMem f).icache = s.icache := rfl
@[simp] theorem State.mapMem_dcache : (s.mapMem f).dcache = s.dcache := rfl
@[simp] theorem State.mapMem_powerMode : (s.mapMem f).powerMode = s.powerMode := rfl
@[simp] theorem State.mapMem_timerPending : (s.mapMem f).timerPending = s.timerPending := rfl
@[simp] theorem State.mapMem_nmiPending : (s.mapMem f).nmiPending = s.nmiPending := rfl
@[simp] theorem State.mapMem_softReset : (s.mapMem f).softReset = s.softReset := rfl
@[simp] theorem State.mapMem_coldReset : (s.mapMem f).coldReset = s.coldReset := rfl
@[simp] theorem State.mapMem_intPins : (s.mapMem f).intPins = s.intPins := rfl
@[simp] theorem State.mapMem_intReg : (s.mapMem f).intReg = s.intReg := rfl
@[simp] theorem State.mapMem_pins : (s.mapMem f).pins = s.pins := rfl
@[simp] theorem State.mapMem_busErrors : (s.mapMem f).busErrors = s.busErrors := rfl
@[simp] theorem State.mapMem_badParity : (s.mapMem f).badParity = s.badParity := rfl
@[simp] theorem State.mapMem_noResponse : (s.mapMem f).noResponse = s.noResponse := rfl
@[simp] theorem State.mapMem_unchecked : (s.mapMem f).unchecked = s.unchecked := rfl
@[simp] theorem State.mapMem_hung : (s.mapMem f).hung = s.hung := rfl
@[simp] theorem State.mapMem_busParityOff : (s.mapMem f).busParityOff = s.busParityOff := rfl
@[simp] theorem State.mapMem_inputs : (s.mapMem f).inputs = s.inputs := rfl
@[simp] theorem State.mapMem_hiLo : (s.mapMem f).hiLo = s.hiLo := rfl
@[simp] theorem State.mapMem_hiLoPrev : (s.mapMem f).hiLoPrev = s.hiLoPrev := rfl
@[simp] theorem State.mapMem_hiLoSaved : (s.mapMem f).hiLoSaved = s.hiLoSaved := rfl
@[simp] theorem State.mapMem_mdBusy : (s.mapMem f).mdBusy = s.mdBusy := rfl
@[simp] theorem State.mapMem_trapped : (s.mapMem f).trapped = s.trapped := rfl
@[simp] theorem State.mapMem_freeCount : (s.mapMem f).freeCount = s.freeCount := rfl
@[simp] theorem State.mapMem_reg (r : Reg) : (s.mapMem f).reg r = s.reg r := rfl

end

section

variable (s : State) (i : BitVec 6) (l : DCacheLine)

@[simp] theorem State.setDLine_pc : (s.setDLine i l).pc = s.pc := rfl
@[simp] theorem State.setDLine_npc : (s.setDLine i l).npc = s.npc := rfl
@[simp] theorem State.setDLine_ds : (s.setDLine i l).ds = s.ds := rfl
@[simp] theorem State.setDLine_gpr : (s.setDLine i l).gpr = s.gpr := rfl
@[simp] theorem State.setDLine_hi : (s.setDLine i l).hi = s.hi := rfl
@[simp] theorem State.setDLine_lo : (s.setDLine i l).lo = s.lo := rfl
@[simp] theorem State.setDLine_cp0 : (s.setDLine i l).cp0 = s.cp0 := rfl
@[simp] theorem State.setDLine_tlb : (s.setDLine i l).tlb = s.tlb := rfl
@[simp] theorem State.setDLine_icache : (s.setDLine i l).icache = s.icache := rfl
@[simp] theorem State.setDLine_powerMode : (s.setDLine i l).powerMode = s.powerMode := rfl
@[simp] theorem State.setDLine_timerPending : (s.setDLine i l).timerPending = s.timerPending := rfl
@[simp] theorem State.setDLine_nmiPending : (s.setDLine i l).nmiPending = s.nmiPending := rfl
@[simp] theorem State.setDLine_softReset : (s.setDLine i l).softReset = s.softReset := rfl
@[simp] theorem State.setDLine_coldReset : (s.setDLine i l).coldReset = s.coldReset := rfl
@[simp] theorem State.setDLine_intPins : (s.setDLine i l).intPins = s.intPins := rfl
@[simp] theorem State.setDLine_intReg : (s.setDLine i l).intReg = s.intReg := rfl
@[simp] theorem State.setDLine_pins : (s.setDLine i l).pins = s.pins := rfl
@[simp] theorem State.setDLine_mem : (s.setDLine i l).mem = s.mem := rfl
@[simp] theorem State.setDLine_busErrors : (s.setDLine i l).busErrors = s.busErrors := rfl
@[simp] theorem State.setDLine_badParity : (s.setDLine i l).badParity = s.badParity := rfl
@[simp] theorem State.setDLine_noResponse : (s.setDLine i l).noResponse = s.noResponse := rfl
@[simp] theorem State.setDLine_unchecked : (s.setDLine i l).unchecked = s.unchecked := rfl
@[simp] theorem State.setDLine_hung : (s.setDLine i l).hung = s.hung := rfl
@[simp] theorem State.setDLine_busParityOff : (s.setDLine i l).busParityOff = s.busParityOff := rfl
@[simp] theorem State.setDLine_inputs : (s.setDLine i l).inputs = s.inputs := rfl
@[simp] theorem State.setDLine_hiLo : (s.setDLine i l).hiLo = s.hiLo := rfl
@[simp] theorem State.setDLine_hiLoPrev : (s.setDLine i l).hiLoPrev = s.hiLoPrev := rfl
@[simp] theorem State.setDLine_hiLoSaved : (s.setDLine i l).hiLoSaved = s.hiLoSaved := rfl
@[simp] theorem State.setDLine_mdBusy : (s.setDLine i l).mdBusy = s.mdBusy := rfl
@[simp] theorem State.setDLine_trapped : (s.setDLine i l).trapped = s.trapped := rfl
@[simp] theorem State.setDLine_freeCount : (s.setDLine i l).freeCount = s.freeCount := rfl
@[simp] theorem State.setDLine_reg (r : Reg) : (s.setDLine i l).reg r = s.reg r := rfl

end

section

variable (s : State) (i : BitVec 7) (l : ICacheLine)

@[simp] theorem State.setILine_pc : (s.setILine i l).pc = s.pc := rfl
@[simp] theorem State.setILine_npc : (s.setILine i l).npc = s.npc := rfl
@[simp] theorem State.setILine_ds : (s.setILine i l).ds = s.ds := rfl
@[simp] theorem State.setILine_gpr : (s.setILine i l).gpr = s.gpr := rfl
@[simp] theorem State.setILine_hi : (s.setILine i l).hi = s.hi := rfl
@[simp] theorem State.setILine_lo : (s.setILine i l).lo = s.lo := rfl
@[simp] theorem State.setILine_cp0 : (s.setILine i l).cp0 = s.cp0 := rfl
@[simp] theorem State.setILine_tlb : (s.setILine i l).tlb = s.tlb := rfl
@[simp] theorem State.setILine_dcache : (s.setILine i l).dcache = s.dcache := rfl
@[simp] theorem State.setILine_powerMode : (s.setILine i l).powerMode = s.powerMode := rfl
@[simp] theorem State.setILine_timerPending : (s.setILine i l).timerPending = s.timerPending := rfl
@[simp] theorem State.setILine_nmiPending : (s.setILine i l).nmiPending = s.nmiPending := rfl
@[simp] theorem State.setILine_softReset : (s.setILine i l).softReset = s.softReset := rfl
@[simp] theorem State.setILine_coldReset : (s.setILine i l).coldReset = s.coldReset := rfl
@[simp] theorem State.setILine_intPins : (s.setILine i l).intPins = s.intPins := rfl
@[simp] theorem State.setILine_intReg : (s.setILine i l).intReg = s.intReg := rfl
@[simp] theorem State.setILine_pins : (s.setILine i l).pins = s.pins := rfl
@[simp] theorem State.setILine_mem : (s.setILine i l).mem = s.mem := rfl
@[simp] theorem State.setILine_busErrors : (s.setILine i l).busErrors = s.busErrors := rfl
@[simp] theorem State.setILine_badParity : (s.setILine i l).badParity = s.badParity := rfl
@[simp] theorem State.setILine_noResponse : (s.setILine i l).noResponse = s.noResponse := rfl
@[simp] theorem State.setILine_unchecked : (s.setILine i l).unchecked = s.unchecked := rfl
@[simp] theorem State.setILine_hung : (s.setILine i l).hung = s.hung := rfl
@[simp] theorem State.setILine_busParityOff : (s.setILine i l).busParityOff = s.busParityOff := rfl
@[simp] theorem State.setILine_inputs : (s.setILine i l).inputs = s.inputs := rfl
@[simp] theorem State.setILine_hiLo : (s.setILine i l).hiLo = s.hiLo := rfl
@[simp] theorem State.setILine_hiLoPrev : (s.setILine i l).hiLoPrev = s.hiLoPrev := rfl
@[simp] theorem State.setILine_hiLoSaved : (s.setILine i l).hiLoSaved = s.hiLoSaved := rfl
@[simp] theorem State.setILine_mdBusy : (s.setILine i l).mdBusy = s.mdBusy := rfl
@[simp] theorem State.setILine_trapped : (s.setILine i l).trapped = s.trapped := rfl
@[simp] theorem State.setILine_freeCount : (s.setILine i l).freeCount = s.freeCount := rfl
@[simp] theorem State.setILine_reg (r : Reg) : (s.setILine i l).reg r = s.reg r := rfl

end

section

variable (s : State) (i : BitVec 5) (e : TlbEntry)

@[simp] theorem State.setTlbEntry_pc : (s.setTlbEntry i e).pc = s.pc := rfl
@[simp] theorem State.setTlbEntry_npc : (s.setTlbEntry i e).npc = s.npc := rfl
@[simp] theorem State.setTlbEntry_ds : (s.setTlbEntry i e).ds = s.ds := rfl
@[simp] theorem State.setTlbEntry_gpr : (s.setTlbEntry i e).gpr = s.gpr := rfl
@[simp] theorem State.setTlbEntry_hi : (s.setTlbEntry i e).hi = s.hi := rfl
@[simp] theorem State.setTlbEntry_lo : (s.setTlbEntry i e).lo = s.lo := rfl
@[simp] theorem State.setTlbEntry_cp0 : (s.setTlbEntry i e).cp0 = s.cp0 := rfl
@[simp] theorem State.setTlbEntry_icache : (s.setTlbEntry i e).icache = s.icache := rfl
@[simp] theorem State.setTlbEntry_dcache : (s.setTlbEntry i e).dcache = s.dcache := rfl
@[simp] theorem State.setTlbEntry_powerMode : (s.setTlbEntry i e).powerMode = s.powerMode := rfl
@[simp] theorem State.setTlbEntry_timerPending : (s.setTlbEntry i e).timerPending = s.timerPending := rfl
@[simp] theorem State.setTlbEntry_nmiPending : (s.setTlbEntry i e).nmiPending = s.nmiPending := rfl
@[simp] theorem State.setTlbEntry_softReset : (s.setTlbEntry i e).softReset = s.softReset := rfl
@[simp] theorem State.setTlbEntry_coldReset : (s.setTlbEntry i e).coldReset = s.coldReset := rfl
@[simp] theorem State.setTlbEntry_intPins : (s.setTlbEntry i e).intPins = s.intPins := rfl
@[simp] theorem State.setTlbEntry_intReg : (s.setTlbEntry i e).intReg = s.intReg := rfl
@[simp] theorem State.setTlbEntry_pins : (s.setTlbEntry i e).pins = s.pins := rfl
@[simp] theorem State.setTlbEntry_mem : (s.setTlbEntry i e).mem = s.mem := rfl
@[simp] theorem State.setTlbEntry_busErrors : (s.setTlbEntry i e).busErrors = s.busErrors := rfl
@[simp] theorem State.setTlbEntry_badParity : (s.setTlbEntry i e).badParity = s.badParity := rfl
@[simp] theorem State.setTlbEntry_noResponse : (s.setTlbEntry i e).noResponse = s.noResponse := rfl
@[simp] theorem State.setTlbEntry_unchecked : (s.setTlbEntry i e).unchecked = s.unchecked := rfl
@[simp] theorem State.setTlbEntry_hung : (s.setTlbEntry i e).hung = s.hung := rfl
@[simp] theorem State.setTlbEntry_busParityOff : (s.setTlbEntry i e).busParityOff = s.busParityOff := rfl
@[simp] theorem State.setTlbEntry_inputs : (s.setTlbEntry i e).inputs = s.inputs := rfl
@[simp] theorem State.setTlbEntry_hiLo : (s.setTlbEntry i e).hiLo = s.hiLo := rfl
@[simp] theorem State.setTlbEntry_hiLoPrev : (s.setTlbEntry i e).hiLoPrev = s.hiLoPrev := rfl
@[simp] theorem State.setTlbEntry_hiLoSaved : (s.setTlbEntry i e).hiLoSaved = s.hiLoSaved := rfl
@[simp] theorem State.setTlbEntry_mdBusy : (s.setTlbEntry i e).mdBusy = s.mdBusy := rfl
@[simp] theorem State.setTlbEntry_trapped : (s.setTlbEntry i e).trapped = s.trapped := rfl
@[simp] theorem State.setTlbEntry_freeCount : (s.setTlbEntry i e).freeCount = s.freeCount := rfl
@[simp] theorem State.setTlbEntry_reg (r : Reg) : (s.setTlbEntry i e).reg r = s.reg r := rfl

end

section

variable (s : State) (pc npc : DWord) (ds : Bool)

@[simp] theorem State.retire_gpr : (s.retire pc npc ds).gpr = s.gpr := rfl
@[simp] theorem State.retire_hi : (s.retire pc npc ds).hi = s.hi := rfl
@[simp] theorem State.retire_lo : (s.retire pc npc ds).lo = s.lo := rfl
@[simp] theorem State.retire_tlb : (s.retire pc npc ds).tlb = s.tlb := rfl
@[simp] theorem State.retire_icache : (s.retire pc npc ds).icache = s.icache := rfl
@[simp] theorem State.retire_dcache : (s.retire pc npc ds).dcache = s.dcache := rfl
@[simp] theorem State.retire_powerMode : (s.retire pc npc ds).powerMode = s.powerMode := rfl
@[simp] theorem State.retire_timerPending : (s.retire pc npc ds).timerPending = s.timerPending := rfl
@[simp] theorem State.retire_nmiPending : (s.retire pc npc ds).nmiPending = s.nmiPending := rfl
@[simp] theorem State.retire_softReset : (s.retire pc npc ds).softReset = s.softReset := rfl
@[simp] theorem State.retire_coldReset : (s.retire pc npc ds).coldReset = s.coldReset := rfl
@[simp] theorem State.retire_intPins : (s.retire pc npc ds).intPins = s.intPins := rfl
@[simp] theorem State.retire_intReg : (s.retire pc npc ds).intReg = s.intReg := rfl
@[simp] theorem State.retire_pins : (s.retire pc npc ds).pins = s.pins := rfl
@[simp] theorem State.retire_mem : (s.retire pc npc ds).mem = s.mem := rfl
@[simp] theorem State.retire_busErrors : (s.retire pc npc ds).busErrors = s.busErrors := rfl
@[simp] theorem State.retire_badParity : (s.retire pc npc ds).badParity = s.badParity := rfl
@[simp] theorem State.retire_noResponse : (s.retire pc npc ds).noResponse = s.noResponse := rfl
@[simp] theorem State.retire_unchecked : (s.retire pc npc ds).unchecked = s.unchecked := rfl
@[simp] theorem State.retire_hung : (s.retire pc npc ds).hung = s.hung := rfl
@[simp] theorem State.retire_busParityOff : (s.retire pc npc ds).busParityOff = s.busParityOff := rfl
@[simp] theorem State.retire_inputs : (s.retire pc npc ds).inputs = s.inputs := rfl
@[simp] theorem State.retire_hiLoSaved : (s.retire pc npc ds).hiLoSaved = s.hiLoSaved := rfl
@[simp] theorem State.retire_freeCount : (s.retire pc npc ds).freeCount = s.freeCount := rfl
@[simp] theorem State.retire_reg (r : Reg) : (s.retire pc npc ds).reg r = s.reg r := rfl

end

section

variable (s : State) (v : DWord)

@[simp] theorem State.jumpToHandler_gpr : (s.jumpToHandler v).gpr = s.gpr := rfl
@[simp] theorem State.jumpToHandler_hi : (s.jumpToHandler v).hi = s.hi := rfl
@[simp] theorem State.jumpToHandler_lo : (s.jumpToHandler v).lo = s.lo := rfl
@[simp] theorem State.jumpToHandler_cp0 : (s.jumpToHandler v).cp0 = s.cp0 := rfl
@[simp] theorem State.jumpToHandler_tlb : (s.jumpToHandler v).tlb = s.tlb := rfl
@[simp] theorem State.jumpToHandler_icache : (s.jumpToHandler v).icache = s.icache := rfl
@[simp] theorem State.jumpToHandler_dcache : (s.jumpToHandler v).dcache = s.dcache := rfl
@[simp] theorem State.jumpToHandler_powerMode : (s.jumpToHandler v).powerMode = s.powerMode := rfl
@[simp] theorem State.jumpToHandler_timerPending : (s.jumpToHandler v).timerPending = s.timerPending := rfl
@[simp] theorem State.jumpToHandler_nmiPending : (s.jumpToHandler v).nmiPending = s.nmiPending := rfl
@[simp] theorem State.jumpToHandler_softReset : (s.jumpToHandler v).softReset = s.softReset := rfl
@[simp] theorem State.jumpToHandler_coldReset : (s.jumpToHandler v).coldReset = s.coldReset := rfl
@[simp] theorem State.jumpToHandler_intPins : (s.jumpToHandler v).intPins = s.intPins := rfl
@[simp] theorem State.jumpToHandler_intReg : (s.jumpToHandler v).intReg = s.intReg := rfl
@[simp] theorem State.jumpToHandler_pins : (s.jumpToHandler v).pins = s.pins := rfl
@[simp] theorem State.jumpToHandler_mem : (s.jumpToHandler v).mem = s.mem := rfl
@[simp] theorem State.jumpToHandler_busErrors : (s.jumpToHandler v).busErrors = s.busErrors := rfl
@[simp] theorem State.jumpToHandler_badParity : (s.jumpToHandler v).badParity = s.badParity := rfl
@[simp] theorem State.jumpToHandler_noResponse : (s.jumpToHandler v).noResponse = s.noResponse := rfl
@[simp] theorem State.jumpToHandler_unchecked : (s.jumpToHandler v).unchecked = s.unchecked := rfl
@[simp] theorem State.jumpToHandler_hung : (s.jumpToHandler v).hung = s.hung := rfl
@[simp] theorem State.jumpToHandler_busParityOff : (s.jumpToHandler v).busParityOff = s.busParityOff := rfl
@[simp] theorem State.jumpToHandler_inputs : (s.jumpToHandler v).inputs = s.inputs := rfl
@[simp] theorem State.jumpToHandler_hiLoSaved : (s.jumpToHandler v).hiLoSaved = s.hiLoSaved := rfl
@[simp] theorem State.jumpToHandler_mdBusy : (s.jumpToHandler v).mdBusy = s.mdBusy := rfl
@[simp] theorem State.jumpToHandler_freeCount : (s.jumpToHandler v).freeCount = s.freeCount := rfl
@[simp] theorem State.jumpToHandler_reg (r : Reg) : (s.jumpToHandler v).reg r = s.reg r := rfl

end

@[simp] theorem State.mapCp0_cp0_eq (s : State) (f : Cp0 → Cp0) : (s.mapCp0 f).cp0 = f s.cp0 := rfl
@[simp] theorem State.mapMem_mem_eq (s : State) (f : Memory → Memory) : (s.mapMem f).mem = f s.mem := rfl

section

variable (s : State) (pc npc : DWord) (ds : Bool)

@[simp] theorem State.retire_pc_eq : (s.retire pc npc ds).pc = pc := rfl
@[simp] theorem State.retire_npc_eq : (s.retire pc npc ds).npc = npc := rfl
@[simp] theorem State.retire_ds_eq : (s.retire pc npc ds).ds = ds := rfl
@[simp] theorem State.retire_cp0_eq :
    (s.retire pc npc ds).cp0 = { s.cp0 with random := nextRandom s.cp0.random s.cp0.wired } := rfl
@[simp] theorem State.retire_hiLo_eq : (s.retire pc npc ds).hiLo = s.hiLo.age := rfl
@[simp] theorem State.retire_hiLoPrev_eq : (s.retire pc npc ds).hiLoPrev = s.hiLo := rfl
@[simp] theorem State.retire_mdBusy_eq : (s.retire pc npc ds).mdBusy = s.mdBusy - 1 := rfl
@[simp] theorem State.retire_trapped_eq : (s.retire pc npc ds).trapped = false := rfl

end

section

variable (s : State) (v : DWord)

@[simp] theorem State.jumpToHandler_pc_eq : (s.jumpToHandler v).pc = v := rfl
@[simp] theorem State.jumpToHandler_npc_eq : (s.jumpToHandler v).npc = v + 4 := rfl
@[simp] theorem State.jumpToHandler_ds_eq : (s.jumpToHandler v).ds = false := rfl
@[simp] theorem State.jumpToHandler_hiLo_eq : (s.jumpToHandler v).hiLo = HiLoWindow.empty := rfl
@[simp] theorem State.jumpToHandler_hiLoPrev_eq : (s.jumpToHandler v).hiLoPrev = HiLoWindow.empty := rfl
@[simp] theorem State.jumpToHandler_trapped_eq : (s.jumpToHandler v).trapped = true := rfl

end

section

variable (s : State) (r : Reg) (v : DWord)

@[simp] theorem State.setReg_pc : (s.setReg r v).pc = s.pc := by unfold State.setReg; split <;> rfl
@[simp] theorem State.setReg_npc : (s.setReg r v).npc = s.npc := by unfold State.setReg; split <;> rfl
@[simp] theorem State.setReg_ds : (s.setReg r v).ds = s.ds := by unfold State.setReg; split <;> rfl
@[simp] theorem State.setReg_hi : (s.setReg r v).hi = s.hi := by unfold State.setReg; split <;> rfl
@[simp] theorem State.setReg_lo : (s.setReg r v).lo = s.lo := by unfold State.setReg; split <;> rfl
@[simp] theorem State.setReg_cp0 : (s.setReg r v).cp0 = s.cp0 := by unfold State.setReg; split <;> rfl
@[simp] theorem State.setReg_tlb : (s.setReg r v).tlb = s.tlb := by unfold State.setReg; split <;> rfl
@[simp] theorem State.setReg_icache : (s.setReg r v).icache = s.icache := by unfold State.setReg; split <;> rfl
@[simp] theorem State.setReg_dcache : (s.setReg r v).dcache = s.dcache := by unfold State.setReg; split <;> rfl
@[simp] theorem State.setReg_powerMode : (s.setReg r v).powerMode = s.powerMode := by unfold State.setReg; split <;> rfl
@[simp] theorem State.setReg_timerPending : (s.setReg r v).timerPending = s.timerPending := by unfold State.setReg; split <;> rfl
@[simp] theorem State.setReg_nmiPending : (s.setReg r v).nmiPending = s.nmiPending := by unfold State.setReg; split <;> rfl
@[simp] theorem State.setReg_softReset : (s.setReg r v).softReset = s.softReset := by unfold State.setReg; split <;> rfl
@[simp] theorem State.setReg_coldReset : (s.setReg r v).coldReset = s.coldReset := by unfold State.setReg; split <;> rfl
@[simp] theorem State.setReg_intPins : (s.setReg r v).intPins = s.intPins := by unfold State.setReg; split <;> rfl
@[simp] theorem State.setReg_intReg : (s.setReg r v).intReg = s.intReg := by unfold State.setReg; split <;> rfl
@[simp] theorem State.setReg_pins : (s.setReg r v).pins = s.pins := by unfold State.setReg; split <;> rfl
@[simp] theorem State.setReg_mem : (s.setReg r v).mem = s.mem := by unfold State.setReg; split <;> rfl
@[simp] theorem State.setReg_busErrors : (s.setReg r v).busErrors = s.busErrors := by unfold State.setReg; split <;> rfl
@[simp] theorem State.setReg_badParity : (s.setReg r v).badParity = s.badParity := by unfold State.setReg; split <;> rfl
@[simp] theorem State.setReg_noResponse : (s.setReg r v).noResponse = s.noResponse := by unfold State.setReg; split <;> rfl
@[simp] theorem State.setReg_unchecked : (s.setReg r v).unchecked = s.unchecked := by unfold State.setReg; split <;> rfl
@[simp] theorem State.setReg_hung : (s.setReg r v).hung = s.hung := by unfold State.setReg; split <;> rfl
@[simp] theorem State.setReg_busParityOff : (s.setReg r v).busParityOff = s.busParityOff := by unfold State.setReg; split <;> rfl
@[simp] theorem State.setReg_inputs : (s.setReg r v).inputs = s.inputs := by unfold State.setReg; split <;> rfl
@[simp] theorem State.setReg_hiLo : (s.setReg r v).hiLo = s.hiLo := by unfold State.setReg; split <;> rfl
@[simp] theorem State.setReg_hiLoPrev : (s.setReg r v).hiLoPrev = s.hiLoPrev := by unfold State.setReg; split <;> rfl
@[simp] theorem State.setReg_hiLoSaved : (s.setReg r v).hiLoSaved = s.hiLoSaved := by unfold State.setReg; split <;> rfl
@[simp] theorem State.setReg_mdBusy : (s.setReg r v).mdBusy = s.mdBusy := by unfold State.setReg; split <;> rfl
@[simp] theorem State.setReg_trapped : (s.setReg r v).trapped = s.trapped := by unfold State.setReg; split <;> rfl
@[simp] theorem State.setReg_freeCount : (s.setReg r v).freeCount = s.freeCount := by unfold State.setReg; split <;> rfl

end

/-- r0 reads 0 (10:R21). -/
@[simp] theorem State.reg_zero (s : State) : s.reg 0 = 0 := rfl

/-- A register reads what was written to it, unless it is r0 (10:R21). -/
theorem State.reg_setReg_same (s : State) (r : Reg) (v : DWord) : (s.setReg r v).reg r = if r = 0 then 0 else v := by
  unfold State.reg State.setReg
  by_cases h : r = 0
  · rw [if_pos h, if_pos h]
  · rw [if_neg h, if_neg h, if_neg h]
    exact Vector.getElem_set_self ..

/-- A write leaves every other register alone (10:R20). -/
theorem State.reg_setReg_other (s : State) {r r' : Reg} (v : DWord) (h : r' ≠ r) : (s.setReg r v).reg r' = s.reg r' := by
  have hn : r.toNat ≠ r'.toNat := fun e => h (BitVec.eq_of_toNat_eq e.symm)
  unfold State.reg State.setReg
  by_cases h0 : r = 0
  · rw [if_pos h0]
  · rw [if_neg h0]
    by_cases h1 : r' = 0
    · rw [if_pos h1, if_pos h1]
    · rw [if_neg h1, if_neg h1]
      exact Vector.getElem_set_ne r.isLt r'.isLt hn

/-- A data cache line reads as it was written. -/
@[simp] theorem State.dLine_setDLine_same (s : State) (i : BitVec 6) (l : DCacheLine) : (s.setDLine i l).dLine i = l := by
  simp [State.dLine, State.setDLine]

/-- A write of a data cache line leaves the others alone. -/
theorem State.dLine_setDLine_other (s : State) {i j : BitVec 6} (l : DCacheLine) (h : j ≠ i) :
    (s.setDLine i l).dLine j = s.dLine j := by
  have hn : i.toNat ≠ j.toNat := fun e => h (BitVec.eq_of_toNat_eq e.symm)
  simp [State.dLine, State.setDLine, hn]

/-- An instruction cache line reads as it was written. -/
@[simp] theorem State.iLine_setILine_same (s : State) (i : BitVec 7) (l : ICacheLine) : (s.setILine i l).iLine i = l := by
  simp [State.iLine, State.setILine]

/-- A write of an instruction cache line leaves the others alone. -/
theorem State.iLine_setILine_other (s : State) {i j : BitVec 7} (l : ICacheLine) (h : j ≠ i) :
    (s.setILine i l).iLine j = s.iLine j := by
  have hn : i.toNat ≠ j.toNat := fun e => h (BitVec.eq_of_toNat_eq e.symm)
  simp [State.iLine, State.setILine, hn]

/-- A TLB entry reads as it was written (10:R71). -/
@[simp] theorem State.tlbEntry_setTlbEntry_same (s : State) (i : BitVec 5) (e : TlbEntry) :
    (s.setTlbEntry i e).tlbEntry i = e := by
  simp [State.tlbEntry, State.setTlbEntry]

/-- A write of a TLB entry leaves the others alone. -/
theorem State.tlbEntry_setTlbEntry_other (s : State) {i j : BitVec 5} (e : TlbEntry) (h : j ≠ i) :
    (s.setTlbEntry i e).tlbEntry j = s.tlbEntry j := by
  have hn : i.toNat ≠ j.toNat := fun e => h (BitVec.eq_of_toNat_eq e.symm)
  simp [State.tlbEntry, State.setTlbEntry, hn]

end Sys2Proof.Machine
end

