-- ==== Sys2Proof/Laws/Ops.lean ====
section
/-! SUPPORT. What the shared operations can do, said once for each: how an instruction built from parts ends, what the checks
before it decide, and what translation and the physical accesses leave unchanged. -/

namespace Sys2Proof.Machine

/-- A sequence completes when both parts do. -/
theorem Access.andThen_eq_ok {α β : Type} {m : Access α} {k : α → State → Access β} {b : β} {u : State} :
    m.andThen k = .ok b u ↔ ∃ a t, m = .ok a t ∧ k a t = .ok b u := by
  cases m <;> simp [Access.andThen]

/-- A sequence raises when its first part does, or its first part completes and its second raises. -/
theorem Access.andThen_eq_raise {α β : Type} {m : Access α} {k : α → State → Access β} {e : Exc} {u : State} :
    m.andThen k = .raise e u ↔ m = .raise e u ∨ ∃ a t, m = .ok a t ∧ k a t = .raise e u := by
  cases m <;> simp [Access.andThen]

/-- An instruction that answers a next state has completed, taken an exception, shut the TLB down, or hung. -/
theorem Access.finish_eq_next {m : Access Unit} {t : State} (h : m.finish = .next t) :
    m = .ok () t ∨ (∃ e s, m = .raise e s ∧ t = s.takeException e) ∨ (∃ s, m = .shutdown s ∧ t = s.tlbShutdown)
      ∨ ∃ s, m = .hang s ∧ t = s.hangUp := by
  cases m <;> simp_all [Access.finish]

/-- A 64-bit instruction that answers a next state was allowed, or raised RI (30:R172). -/
theorem State.requires64_eq_next {s t : State} {k : Host.Outcome State Fault Refusal} (h : s.requires64 k = .next t) :
    (s.is64bitOps = true ∧ k = .next t) ∨ (s.is64bitOps = false ∧ t = s.takeException .ri) := by
  unfold State.requires64 State.raise at h
  split at h
  · exact .inl ⟨‹_›, h⟩
  · split at h
    · cases h
    · exact .inr ⟨by simpa using ‹¬s.is64bitOps = true›, by simpa using h.symm⟩

/-- A CP0 instruction that answers a next state was allowed, or raised CpU(0) (45:R360). -/
theorem State.requiresCp0_eq_next {s t : State} {k : Host.Outcome State Fault Refusal} (h : s.requiresCp0 k = .next t) :
    (s.cp0Usable = true ∧ k = .next t) ∨ (s.cp0Usable = false ∧ t = s.takeException (.cpU 0)) := by
  unfold State.requiresCp0 State.raise at h
  split at h
  · exact .inl ⟨‹_›, h⟩
  · exact .inr ⟨by simpa using ‹¬s.cp0Usable = true›, by simpa using h.symm⟩

/-- A jump, branch or ERET that answers a next state was outside a delay slot (43:R322). -/
theorem State.outsideSlot_eq_next {s t : State} {k : Host.Outcome State Fault Refusal} (h : s.outsideSlot k = .next t) :
    s.ds = false ∧ k = .next t := by
  unfold State.outsideSlot at h
  split at h
  · cases h
  · exact ⟨by simpa using ‹¬s.ds = true›, h⟩

/-- A step to a state with a mode answers that state (60:R430). -/
theorem State.inDefinedMode_eq_next {s t : State} (h : s.inDefinedMode = .next t) : t = s ∧ s.mode ≠ .undefined := by
  unfold State.inDefinedMode at h
  split at h
  · cases h
  · exact ⟨by simpa using h.symm, ‹_›⟩

/-- Translation changes nothing (20:R115). -/
theorem State.translate_state {va : DWord} {kind : AccessKind} {s t : State} {tr : Translation}
    (h : s.translate va kind = .ok tr t) : t = s := by
  unfold State.translate at h
  split at h
  · cases h
  · split at h
    · split at h <;> cases h
    · split at h
      · cases h
      · exact (Access.ok.inj h).2.symm
      · unfold State.translateMapped at h
        split at h
        · cases h
        · unfold TlbEntry.translate at h
          split at h
          · cases h
          · dsimp only at h
            split at h
            · cases h
            · split at h
              · cases h
              · exact (Access.ok.inj h).2.symm
        · cases h

/-- Two states that differ at most in external memory and the data cache. -/
def SameButData (s t : State) : Prop := t = { s with mem := t.mem, dcache := t.dcache }

theorem SameButData.rfl {s : State} : SameButData s s := Eq.refl s

theorem SameButData.trans {s t u : State} (h : SameButData s t) (g : SameButData t u) : SameButData s u := by
  unfold SameButData at *
  rw [g, h]

/-- A read of the external agent changes nothing (20:R124). -/
theorem State.busRead_state {words : WordAddr → Bool} {e : Exc} {s t : State} (h : s.busRead words e = .ok () t) : t = s := by
  unfold State.busRead at h
  split at h
  · cases h
  · split at h
    · cases h
    · split at h
      · cases h
      · exact (Access.ok.inj h).2.symm

/-- A write-back changes external memory and the data cache (20:R144). -/
theorem State.writeBack_same (i : BitVec 6) (s : State) : SameButData s (s.writeBack i) := Eq.refl _

/-- Making room in the data cache changes external memory and the data cache (20:R141). -/
theorem State.evict_state {i : BitVec 6} {s t : State} (h : s.evict i = .ok () t) :
    t = s ∨ ((s.dLine i).dirty = true ∧ t = s.writeBack i) := by
  unfold State.evict at h
  dsimp only at h
  split at h
  · split at h
    · cases h
    · split at h
      · cases h
      · exact .inr ⟨‹_›, (Access.ok.inj h).2.symm⟩
  · split at h
    · cases h
    · exact .inl (Access.ok.inj h).2.symm

/-- A line fill changes the data cache (20:R141). -/
theorem State.fillData_state {pa : PAddr} {s t : State} (h : s.fillData pa = .ok () t) : SameButData s t := by
  obtain ⟨_, u, hu, ht⟩ := Access.andThen_eq_ok.1 h
  have hs := State.busRead_state hu
  subst hs
  exact (Access.ok.inj ht).2 ▸ Eq.refl _

/-- Opening a line changes external memory and the data cache (20:R141, R142). -/
theorem State.openLine_state {pa : PAddr} {s t : State} (h : s.openLine pa = .ok () t) : SameButData s t := by
  unfold State.openLine at h
  dsimp only at h
  split at h
  · split at h
    · cases h
    · exact (Access.ok.inj h).2 ▸ SameButData.rfl
  · obtain ⟨_, u, hu, ht⟩ := Access.andThen_eq_ok.1 h
    have hst : SameButData s u := by
      rcases State.evict_state hu with rfl | ⟨_, rfl⟩
      · exact SameButData.rfl
      · exact State.writeBack_same ..
    exact hst.trans (State.fillData_state ht)

/-- A data read changes external memory and the data cache (20:R124). -/
theorem State.physRead_state {pa : PAddr} {cached : Bool} {addrs : List PAddr} {bytes : List Byte} {s t : State}
    (h : s.physRead pa cached addrs = .ok bytes t) : SameButData s t := by
  unfold State.physRead at h
  split at h
  · obtain ⟨_, u, hu, ht⟩ := Access.andThen_eq_ok.1 h
    split at ht
    · cases ht
    · exact (Access.ok.inj ht).2 ▸ State.openLine_state hu
  · obtain ⟨_, u, hu, ht⟩ := Access.andThen_eq_ok.1 h
    have hs := State.busRead_state hu
    subst hs
    exact (Access.ok.inj ht).2 ▸ SameButData.rfl

/-- A byte stored in the data cache changes the data cache (20:R142). -/
theorem State.storeCachedBytes_same (ws : List (PAddr × Byte)) :
    ∀ s : State, SameButData s (ws.foldl (fun u w => u.storeCachedByte w.1 w.2) s) := by
  induction ws with
  | nil => exact fun s => SameButData.rfl
  | cons w ws ih => exact fun s =>
      SameButData.trans (show SameButData s (s.storeCachedByte w.1 w.2) from Eq.refl _) (ih (s.storeCachedByte w.1 w.2))

/-- A data write changes external memory and the data cache (20:R124). -/
theorem State.physWrite_state {pa : PAddr} {cached : Bool} {ws : List (PAddr × Byte)} {s t : State}
    (h : s.physWrite pa cached ws = .ok () t) : SameButData s t := by
  unfold State.physWrite at h
  split at h
  · obtain ⟨_, u, hu, ht⟩ := Access.andThen_eq_ok.1 h
    exact (State.openLine_state hu).trans ((Access.ok.inj ht).2 ▸ State.storeCachedBytes_same ws u)
  · exact (Access.ok.inj h).2 ▸ Eq.refl _

/-- A watched access completes only when it is not watched (60:R445). -/
theorem State.watched_eq_ok {α : Type} {pa : PAddr} {kind : AccessKind} {r : Access α} {a : α} {s t : State}
    (h : s.watched pa kind r = .ok a t) : s.watchMatch pa kind = false ∧ r = .ok a t := by
  unfold State.watched at h
  split at h
  · split at h
    · cases h
    · split at h <;> cases h
  · exact ⟨by simpa using ‹¬s.watchMatch pa kind = true›, h⟩

/-- A load changes external memory and the data cache (20:R120, R123). -/
theorem State.loadPart_state {va : DWord} {part : Part} {v : DWord} {s t : State} (h : s.loadPart va part = .ok v t) :
    SameButData s t := by
  obtain ⟨tr, u, hu, ht⟩ := Access.andThen_eq_ok.1 h
  have hs := State.translate_state hu
  subst hs
  obtain ⟨bytes, x, hx, ht⟩ := Access.andThen_eq_ok.1 ht
  exact (Access.ok.inj ht).2 ▸ State.physRead_state (State.watched_eq_ok hx).2

/-- A store changes external memory and the data cache (20:R121, R123). -/
theorem State.storePart_state {va : DWord} {part : Part} {v : DWord} {s t : State}
    (h : s.storePart va part v = .ok () t) : SameButData s t := by
  obtain ⟨tr, u, hu, ht⟩ := Access.andThen_eq_ok.1 h
  have hs := State.translate_state hu
  subst hs
  exact State.physWrite_state (State.watched_eq_ok ht).2

/-- A write of a general register changes nothing else (10:R20). -/
theorem State.setReg_eq (r : Reg) (v : DWord) (s : State) : s.setReg r v = { s with gpr := (s.setReg r v).gpr } := by
  unfold State.setReg
  split <;> rfl

/-- Registers that lose their values: no other register changes, and nothing else. -/
theorem State.forget_spec (rs : List Reg) (kind : Reg → OpenValue) (s : State) :
    s.forget rs kind = { s with gpr := (s.forget rs kind).gpr } ∧ ∀ x, x ∉ rs → (s.forget rs kind).reg x = s.reg x := by
  have go : ∀ (rs : List Reg) (t : State), t = { s with gpr := t.gpr } →
      let u := rs.foldl (fun t r => t.setReg r (s.freeWord (kind r))) t
      u = { s with gpr := u.gpr } ∧ ∀ x, x ∉ rs → u.reg x = t.reg x := by
    intro rs
    induction rs with
    | nil => exact fun t ht => ⟨ht, fun _ _ => rfl⟩
    | cons r rs ih =>
      intro t ht
      have hu : t.setReg r (s.freeWord (kind r)) = { s with gpr := (t.setReg r (s.freeWord (kind r))).gpr } := by
        rw [State.setReg_eq, ht]
      obtain ⟨h, k⟩ := ih _ hu
      refine ⟨h, fun x hx => (k x fun hm => hx (.tail _ hm)).trans ?_⟩
      exact State.reg_setReg_other t _ fun e => hx (e ▸ .head _)
  exact go rs s rfl

/-- A register that loses its value has the open value of its own. -/
theorem State.forget_reg {rs : List Reg} {r : Reg} (kind : Reg → OpenValue) (s : State) (hr : r ∈ rs) (h0 : r ≠ 0) :
    (s.forget rs kind).reg r = s.freeWord (kind r) := by
  have keep : ∀ (rs : List Reg) (t : State), t.reg r = s.freeWord (kind r) →
      (rs.foldl (fun t r => t.setReg r (s.freeWord (kind r))) t).reg r = s.freeWord (kind r) := by
    intro rs
    induction rs with
    | nil => exact fun _ h => h
    | cons x rs ih =>
      refine fun t h => ih _ ?_
      by_cases e : r = x
      · rw [← e, State.reg_setReg_same, if_neg h0]
      · rw [State.reg_setReg_other t _ e, h]
  have go : ∀ (rs : List Reg) (t : State), r ∈ rs →
      (rs.foldl (fun t r => t.setReg r (s.freeWord (kind r))) t).reg r = s.freeWord (kind r) := by
    intro rs
    induction rs with
    | nil => exact fun _ h => nomatch h
    | cons x rs ih =>
      intro t h
      rcases List.mem_cons.1 h with rfl | h
      · exact keep rs _ (by rw [State.reg_setReg_same, if_neg h0])
      · exact ih _ h
  exact go rs s hr

/-- A program interrupted at an address or one instruction before it. -/
@[simp] theorem SavedWindow.near_iff {a : DWord} {w : SavedWindow} : w.near a = true ↔ w.addr = a ∨ w.addr = a - 4 := by
  simp [SavedWindow.near]

/-- No register differs. -/
@[simp] theorem SavedWindow.differing_eq_zero {s : State} {w : SavedWindow} : w.differing s = 0 ↔ w.gpr = s.gpr := by
  simp only [SavedWindow.differing, List.countP_eq_zero, List.mem_finRange, true_imp_iff, decide_eq_true_eq, not_not]
  exact ⟨fun h => Vector.ext fun i hi => h ⟨i, hi⟩, fun h i => by rw [h]⟩

/-- At most four registers differ. -/
@[simp] theorem SavedWindow.alike_iff {s : State} {w : SavedWindow} : w.alike s = true ↔ w.differing s ≤ 4 := by
  simp [SavedWindow.alike]

/-- A program that waits for a return. -/
@[simp] theorem State.mem_waiting {s : State} {w : SavedWindow} : w ∈ s.waiting ↔ w ∈ s.hiLoSaved ∧ w.resumed = false := by
  simp [State.waiting]

/-- When a return goes on with a program for certain (log 19). -/
theorem State.surelyResumes_iff {a : DWord} {s : State} {w : SavedWindow} :
    s.surelyResumes a w = true ↔ w.near a = true ∧ (s.waiting.head? = some w ∨ w.differing s ≤ 4)
      ∧ ∀ x, x ∈ s.waiting → (x.addr = w.addr ∧ x.window = w.window)
        ∨ (s.waiting.head? = some w ∧ ¬x.near a = true)
        ∨ (w.differing s < x.differing s ∧ ¬(s.waiting.head? = some x ∧ x.near a = true)) := by
  simp only [State.surelyResumes, SavedWindow.agrees, SavedWindow.alike_iff, Bool.and_eq_true, Bool.or_eq_true, beq_iff_eq,
    List.all_eq_true, Bool.not_eq_true', decide_eq_true_eq, ← Bool.not_eq_true, and_assoc, or_assoc]

/-- The program a return goes on with waits for it, and nothing else waits there that could be meant (log 19). -/
theorem State.returnProgram_eq_some {a : DWord} {s : State} {w : SavedWindow} (h : s.returnProgram a = some w) :
    w ∈ s.hiLoSaved ∧ w.resumed = false ∧ s.surelyResumes a w = true :=
  have hm := State.mem_waiting.1 (List.mem_of_find?_eq_some h)
  ⟨hm.1, hm.2, List.find?_some h⟩

/-- A return that resumes a program at its address: the program's window, and the handler's (70:R470, 42:R296). -/
theorem State.windowAt_resumed {a : DWord} {s : State} {w : SavedWindow} (h : s.returnProgram a = some w) (ha : w.addr = a) :
    s.windowAt a = { w.window with beforeLast := w.window.beforeLast ++ s.hiLo.last }
      ∧ (s.returnWindow true a).spoiled = [] := by
  have hne : w.addr ≠ a - 4#64 := by rw [ha]; bv_omega
  constructor <;> simp [State.windowAt, State.returnWindow, h, hne, HiLoWindow.empty, HiLoWindow.age]

/-- A return that resumes a program behind its instruction: its window is an instruction older. -/
theorem State.windowAt_skipped {a : DWord} {s : State} {w : SavedWindow} (h : s.returnProgram a = some w)
    (ha : w.addr = a - 4) :
    s.windowAt a = { last := [], beforeLast := w.window.last ++ s.hiLo.last, spoiled := [] }
      ∧ (s.returnWindow true a).spoiled = w.window.spoiled := by
  constructor <;> simp [State.windowAt, State.returnWindow, h, ha, HiLoWindow.empty, HiLoWindow.age]

/-- The registers of several windows. -/
theorem HiLoWindow.mem_gather {p : Reg → Bool} {ws : List HiLoWindow} {r : Reg} :
    (r ∈ (HiLoWindow.gather p ws).last ↔ (∃ w ∈ ws, r ∈ w.last) ∧ p r = true)
    ∧ (r ∈ (HiLoWindow.gather p ws).beforeLast ↔ (∃ w ∈ ws, r ∈ w.beforeLast) ∧ p r = true)
    ∧ (r ∈ (HiLoWindow.gather p ws).spoiled ↔ (∃ w ∈ ws, r ∈ w.spoiled) ∧ p r = true) := by
  simp [HiLoWindow.gather]

/-- The programs a return may go on with where none is certain (log 19). -/
@[simp] theorem State.mem_returnCandidates {a : DWord} {s : State} {w : SavedWindow} :
    w ∈ s.returnCandidates a ↔ w ∈ s.hiLoSaved ∧ (w.resumed = false ∨ w.addr = a ∨ w.addr = a - 4) := by
  simp [State.returnCandidates]

/-- The saved window a return resumes where no program is certain. -/
theorem State.returnWindow_open {a : DWord} {s : State} (h : s.returnProgram a = none) (skipped : Bool) :
    s.returnWindow skipped a
      = .gather (fun r => s.freeBit (.resumes skipped r)) ((s.returnCandidates a).map (·.window)) := by
  simp only [State.returnWindow, h]

/-- A return leaves the list of interrupted programs, but for the one it goes on with, if that is certain (log 19). -/
theorem State.windowsAfter_spec (a : DWord) (s : State) :
    (s.returnProgram a = none → s.windowsAfter a = s.hiLoSaved)
    ∧ ∀ w, s.returnProgram a = some w → s.windowsAfter a =
      if w.addr = a ∧ w.differing s ≤ 4 then s.hiLoSaved.erase w
      else s.hiLoSaved.replace w { w with resumed := true } := by
  constructor
  · intro h; simp [State.windowsAfter, h]
  · intro w h; simp only [State.windowsAfter, h, SavedWindow.alike_iff]

@[simp] theorem State.returnTo_pc (a : DWord) (s : State) : (s.returnTo a).pc = a := rfl
@[simp] theorem State.returnTo_npc (a : DWord) (s : State) : (s.returnTo a).npc = a + 4 := rfl
@[simp] theorem State.returnTo_ds (a : DWord) (s : State) : (s.returnTo a).ds = false := rfl
@[simp] theorem State.returnTo_hiLo (a : DWord) (s : State) : (s.returnTo a).hiLo = s.windowAt a := rfl
@[simp] theorem State.returnTo_hiLoSaved (a : DWord) (s : State) : (s.returnTo a).hiLoSaved = s.windowsAfter a := rfl

/-- The registers that a return leaves: only those of a window that ended with a skipped instruction change (70:R470). -/
theorem State.reg_returnTo (a : DWord) (s : State) {r : Reg} (h : r ∉ (s.returnWindow true a).spoiled) :
    (s.returnTo a).reg r = s.reg r :=
  (State.forget_spec _ .hazardAfter s).2 r h

/-- What an instruction leaves once the hazard behind it is settled (70:R470). -/
theorem State.settleHazard_eq_next {s t : State} {o : Host.Outcome State Fault Refusal} (h : s.settleHazard o = .next t) :
    ∃ u, o = .next u ∧ (t = u ∨ (u.trapped = false ∧ t = u.forget s.hiLo.spoiled .hazardAfter)) := by
  cases o with
  | next u =>
    refine ⟨u, rfl, ?_⟩
    unfold State.settleHazard at h
    dsimp only at h
    split at h
    · cases h; exact .inl rfl
    · rename_i hu
      cases h
      exact .inr ⟨by simpa using hu, rfl⟩
  | _ => cases h

end Sys2Proof.Machine
end

