-- ==== Sys2Proof/Laws/Exec.lean ====
section
/-! SUPPORT. What any instruction can do, said once: every part of an instruction leaves all but memory and the caches alone
until the instruction completes or takes its exception. -/

namespace Sys2Proof.Machine

/-- All but memory and the caches is as before, and memory keeps its canonical form. -/
structure SameCore (s t : State) : Prop where
  same : t = { s with mem := t.mem, icache := t.icache, dcache := t.dcache }
  wf : s.mem.wf = true → t.mem.wf = true

theorem SameCore.refl (s : State) : SameCore s s := ⟨Eq.refl s, fun h => h⟩

theorem SameCore.trans {s t u : State} (h : SameCore s t) (g : SameCore t u) : SameCore s u :=
  ⟨by rw [g.same, h.same], fun w => g.wf (h.wf w)⟩

theorem SameCore.cp0 {s t : State} (h : SameCore s t) : t.cp0 = s.cp0 := by rw [h.same]
theorem SameCore.tlb {s t : State} (h : SameCore s t) : t.tlb = s.tlb := by rw [h.same]
theorem SameCore.answersInError {s t : State} {words : WordAddr → Bool} (h : SameCore s t) (g : s.AnswersInError words) :
    t.AnswersInError words := by
  rw [h.same]
  exact ⟨g.answered, g.parity, g.error⟩

theorem SameCore.reg {s t : State} (h : SameCore s t) (r : Reg) : t.reg r = s.reg r := by rw [h.same]; rfl

/-- A read that the external agent answers with an error raises the bus error, and changes nothing (20:R124, R154). -/
theorem State.busRead_inError {words : WordAddr → Bool} (e : Exc) {s : State} (h : s.AnswersInError words) :
    s.busRead words e = .raise e s := by
  have answered : s.noResponse.any words = false :=
    List.any_eq_false.2 fun w hw => by simp [h.answered w hw]
  have error : s.busErrors.any words = true := List.any_eq_true.2 h.error
  unfold State.busRead
  rw [answered, error]
  by_cases hb : s.busParityOn = true
  · have parity : (s.badParity.any fun a => words (wordOf a) && !s.unchecked.contains (wordOf a)) = false := by
      refine List.any_eq_false.2 fun a ha => ?_
      by_cases hw : words (wordOf a) = true
      · simp [h.parity hb a ha hw]
      · simp [hw]
    rw [parity]; simp
  · simp [hb]

/-- Wherever a part of an instruction ends, all but memory and the caches is as before. -/
def Access.Tame {α : Type} (s : State) (m : Access α) : Prop :=
  match m with
  | .ok _ t => SameCore s t
  | .raise _ t => SameCore s t
  | .shutdown t => SameCore s t
  | .hang t => SameCore s t
  | .refuse _ => True
  | .fault _ => True

theorem Access.Tame.ok {α : Type} {s t : State} (a : α) (h : SameCore s t) : (Access.ok a t).Tame s := h
theorem Access.Tame.raise {α : Type} {s t : State} (e : Exc) (h : SameCore s t) : (Access.raise e t : Access α).Tame s := h

theorem Access.Tame.trans {α : Type} {s t : State} {m : Access α} (h : SameCore s t) (g : m.Tame t) : m.Tame s := by
  cases m <;> first | exact h.trans g | trivial

theorem Access.Tame.andThen {α β : Type} {s : State} {m : Access α} {k : α → State → Access β} (h : m.Tame s)
    (g : ∀ a t, SameCore s t → (k a t).Tame t) : (m.andThen k).Tame s := by
  cases m with
  | ok a t => exact (g a t h).trans h
  | _ => exact h

theorem Access.Tame.ite {α : Type} {s : State} {c : Prop} [Decidable c] {m n : Access α} (h : m.Tame s) (g : n.Tame s) :
    (if c then m else n).Tame s := by
  split <;> assumption

theorem SameCore.setDLine (s : State) (i : BitVec 6) (l : DCacheLine) : SameCore s (s.setDLine i l) := ⟨rfl, fun h => h⟩
theorem SameCore.setILine (s : State) (i : BitVec 7) (l : ICacheLine) : SameCore s (s.setILine i l) := ⟨rfl, fun h => h⟩

theorem SameCore.writeLine (s : State) (line : BitVec 28) (data : Vector Byte 16) :
    SameCore s (s.mapMem fun m => m.writeLine line data) := ⟨rfl, Memory.wf_writeLine line data⟩

theorem SameCore.writeBack (s : State) (i : BitVec 6) : SameCore s (s.writeBack i) :=
  (SameCore.writeLine ..).trans (SameCore.setDLine ..)

theorem SameCore.writeBackWrong (s : State) (i : BitVec 6) : SameCore s (s.writeBackWrong i) :=
  (SameCore.writeLine ..).trans (SameCore.setDLine ..)

theorem SameCore.writeBackIfDirty (s : State) (i : BitVec 6) : SameCore s (s.writeBackIfDirty i) := by
  unfold State.writeBackIfDirty
  split
  · exact SameCore.writeBack s i
  · exact SameCore.refl s

theorem State.translate_tame (va : DWord) (k : AccessKind) (s : State) : (s.translate va k).Tame s := by
  unfold State.translate State.translateMapped TlbEntry.translate
  dsimp only
  repeat' split
  all_goals first | exact SameCore.refl s | trivial

theorem State.busRead_tame (words : WordAddr → Bool) (e : Exc) (s : State) : (s.busRead words e).Tame s := by
  unfold State.busRead
  repeat' split
  all_goals exact SameCore.refl s

theorem State.evict_tame (i : BitVec 6) (s : State) : (s.evict i).Tame s := by
  unfold State.evict
  dsimp only
  split
  · split
    · exact .raise _ (SameCore.writeBackWrong s i)
    · split
      · exact .raise _ (SameCore.writeBack s i)
      · exact .ok _ (SameCore.writeBack s i)
  · split
    · exact .raise _ (SameCore.refl s)
    · exact .ok _ (SameCore.refl s)

theorem State.fillData_tame (pa : PAddr) (s : State) : (s.fillData pa).Tame s :=
  ((State.busRead_tame ..).andThen fun _ t _ => .ok _ (SameCore.setDLine t _ _)).trans (SameCore.setDLine ..)

theorem State.openLine_tame (pa : PAddr) (s : State) : (s.openLine pa).Tame s := by
  unfold State.openLine
  dsimp only
  split
  · split <;> exact SameCore.refl s
  · exact (State.evict_tame ..).andThen fun _ _ _ => State.fillData_tame ..

theorem State.physRead_tame (pa : PAddr) (cached : Bool) (addrs : List PAddr) (s : State) :
    (s.physRead pa cached addrs).Tame s := by
  unfold State.physRead State.readCached State.readUncached
  split
  · refine (State.openLine_tame ..).andThen fun _ t _ => ?_
    split <;> exact SameCore.refl t
  · exact (State.busRead_tame ..).andThen fun _ t _ => SameCore.refl t

theorem SameCore.storeCachedBytes (ws : List (PAddr × Byte)) :
    ∀ s : State, SameCore s (ws.foldl (fun u w => u.storeCachedByte w.1 w.2) s) := by
  induction ws with
  | nil => exact SameCore.refl
  | cons w ws ih => exact fun s => (SameCore.setDLine s _ _).trans (ih _)

theorem State.physWrite_tame (pa : PAddr) (cached : Bool) (ws : List (PAddr × Byte)) (s : State) :
    (s.physWrite pa cached ws).Tame s := by
  unfold State.physWrite
  split
  · exact (State.openLine_tame ..).andThen fun _ t _ => SameCore.storeCachedBytes ws t
  · exact ⟨rfl, Memory.wf_writeAll ws⟩

theorem State.watched_tame {α : Type} {pa : PAddr} {kind : AccessKind} {r : Access α} {s : State} (h : r.Tame s) :
    (s.watched pa kind r).Tame s := by
  unfold State.watched
  split
  · split
    · exact h
    · split
      · trivial
      · exact SameCore.refl s
  · exact h

theorem State.loadPart_tame (va : DWord) (part : Part) (s : State) : (s.loadPart va part).Tame s :=
  (State.translate_tame ..).andThen fun _ _ _ =>
    (State.watched_tame (State.physRead_tame ..)).andThen fun _ u _ => SameCore.refl u

theorem State.storePart_tame (va : DWord) (part : Part) (v : DWord) (s : State) : (s.storePart va part v).Tame s :=
  (State.translate_tame ..).andThen fun _ _ _ => State.watched_tame (State.physWrite_tame ..)

theorem State.load_tame (va : DWord) (n : Nat) (s : State) : (s.load va n).Tame s := by
  unfold State.load
  split
  · exact SameCore.refl s
  · exact State.loadPart_tame ..

theorem State.store_tame (va : DWord) (n : Nat) (v : DWord) (s : State) : (s.store va n v).Tame s := by
  unfold State.store
  split
  · exact SameCore.refl s
  · exact State.storePart_tame ..

theorem State.fillInstruction_tame (i : BitVec 7) (pa : PAddr) (e : Exc) (s : State) : (s.fillInstruction i pa e).Tame s :=
  ((State.busRead_tame ..).andThen fun _ t _ => .ok _ (SameCore.setILine t _ _)).trans (SameCore.setILine ..)

theorem State.fetch_tame (va : DWord) (s : State) : (s.fetch va).Tame s := by
  unfold State.fetch
  split
  · exact SameCore.refl s
  · refine (State.translate_tame ..).andThen fun tr t _ => ?_
    split
    · unfold State.fetchCached
      dsimp only
      refine Access.Tame.andThen ?_ fun _ u _ => by split <;> exact SameCore.refl u
      unfold State.openInstructionLine
      dsimp only
      repeat' split
      · exact SameCore.refl t
      · exact SameCore.refl t
      · exact State.fillInstruction_tame ..
    · exact (State.busRead_tame ..).andThen fun _ u _ => SameCore.refl u

/-- The instruction ended in an exception, in TLB shutdown or in a hang, with nothing but memory and caches touched before. -/
def Trapped (s t : State) : Prop :=
  ∃ u, SameCore s u ∧ ((∃ e, t = u.takeException e) ∨ t = u.tlbShutdown ∨ t = u.hangUp)

/-- The instruction completed without touching CP0 but for Random, or the TLB, the latches and the environment. -/
structure Completed (s t : State) : Prop where
  cp0 : t.cp0 = { s.cp0 with random := t.cp0.random }
  random : t.cp0.random = nextRandom s.cp0.random s.cp0.wired
    ∨ t.cp0.random = nextRandom (nextRandom s.cp0.random s.cp0.wired) s.cp0.wired
  tlb : t.tlb = s.tlb
  powerMode : t.powerMode = s.powerMode
  timerPending : t.timerPending = s.timerPending
  nmiPending : t.nmiPending = s.nmiPending
  softReset : t.softReset = s.softReset
  coldReset : t.coldReset = s.coldReset
  intPins : t.intPins = s.intPins
  intReg : t.intReg = s.intReg
  pins : t.pins = s.pins
  busErrors : t.busErrors = s.busErrors
  badParity : t.badParity = s.badParity
  noResponse : t.noResponse = s.noResponse
  unchecked : t.unchecked = s.unchecked
  hung : t.hung = s.hung
  busParityOff : t.busParityOff = s.busParityOff
  inputs : t.inputs = s.inputs
  npc : t.ds = false → t.npc = t.pc + 4
  trapped : t.trapped = false
  wf : s.mem.wf = true → t.mem.wf = true

/-- An outcome that, if it is a next state, is an exception or a completion. -/
structure Ends (s : State) (o : Host.Outcome State Fault Refusal) : Prop where
  cases : ∀ t, o = .next t → Trapped s t ∨ Completed s t

theorem Trapped.of_same {s t u : State} (h : SameCore s t) (g : Trapped t u) : Trapped s u :=
  ⟨g.choose, h.trans g.choose_spec.1, g.choose_spec.2⟩

theorem Completed.of_same {s t u : State} (h : SameCore s t) (g : Completed t u) : Completed s u where
  cp0 := by rw [g.cp0, h.cp0]
  random := by rw [← h.cp0]; exact g.random
  tlb := by rw [g.tlb, h.same]
  powerMode := by rw [g.powerMode, h.same]
  timerPending := by rw [g.timerPending, h.same]
  nmiPending := by rw [g.nmiPending, h.same]
  softReset := by rw [g.softReset, h.same]
  coldReset := by rw [g.coldReset, h.same]
  intPins := by rw [g.intPins, h.same]
  intReg := by rw [g.intReg, h.same]
  pins := by rw [g.pins, h.same]
  busErrors := by rw [g.busErrors, h.same]
  badParity := by rw [g.badParity, h.same]
  noResponse := by rw [g.noResponse, h.same]
  unchecked := by rw [g.unchecked, h.same]
  hung := by rw [g.hung, h.same]
  busParityOff := by rw [g.busParityOff, h.same]
  inputs := by rw [g.inputs, h.same]
  npc := g.npc
  trapped := g.trapped
  wf := fun w => g.wf (h.wf w)

theorem Ends.of_same {s t : State} {o : Host.Outcome State Fault Refusal} (h : SameCore s t) (g : Ends t o) : Ends s o :=
  ⟨fun u hu => (g.cases u hu).imp (.of_same h) (.of_same h)⟩

theorem Ends.next {s t : State} (h : Completed s t) : Ends s (.next t) := ⟨fun _ hu => .inr (by cases hu; exact h)⟩

theorem Ends.refused {s : State} (r : Refusal) : Ends s (.refused r) := ⟨fun _ hu => nomatch hu⟩

theorem Ends.raise (s : State) (e : Exc) : Ends s (s.raise e) :=
  ⟨fun _ hu => .inl ⟨s, SameCore.refl s, .inl ⟨e, by cases hu; rfl⟩⟩⟩

theorem Ends.ite {s : State} {c : Prop} [Decidable c] {o p : Host.Outcome State Fault Refusal} (h : Ends s o) (g : Ends s p) :
    Ends s (if c then o else p) := by
  split <;> assumption

theorem Completed.retire (s : State) (pc npc : DWord) (ds : Bool) (h : ds = false → npc = pc + 4) :
    Completed s (s.retire pc npc ds) := by
  constructor <;> first | rfl | exact .inl rfl | exact h | exact fun w => w

theorem Completed.advance (s : State) : Completed s s.advance := Completed.retire _ _ _ _ fun _ => rfl

theorem Completed.nullifySlot (s : State) : Completed s s.nullifySlot := by
  constructor <;> first | rfl | exact fun w => w | skip
  · unfold State.nullifySlot State.decrementRandomIf
    cases s.freeBit .randomOnNullify
    · exact .inl rfl
    · exact .inr rfl
  · intro _
    show s.npc + 8 = s.npc + 4 + 4
    rw [BitVec.add_assoc]; rfl

theorem Completed.setReg {s t : State} (h : Completed s t) (r : Reg) (v : DWord) : Completed s (t.setReg r v) := by
  unfold State.setReg
  split
  · exact h
  · exact { h with }

theorem Completed.from_setReg {s t : State} (r : Reg) (v : DWord) (h : Completed (s.setReg r v) t) : Completed s t := by
  unfold State.setReg at h
  split at h
  · exact h
  · exact { h with }

theorem Completed.from_hiLoHazard {s t : State} (h : Completed s.hiLoHazard t) : Completed s t := by
  have sets : ∀ (rs : List Reg) (v : Reg → DWord) (u : State),
      Completed (rs.foldl (fun x r => x.setReg r (v r)) u) t → Completed u t := by
    intro rs v
    induction rs with
    | nil => exact fun _ h => h
    | cons r rs ih => exact fun u h => (ih _ h).from_setReg
  exact sets _ _ s h

theorem Ends.requires64 {s : State} {k : Host.Outcome State Fault Refusal} (h : Ends s k) : Ends s (s.requires64 k) :=
  .ite h (.ite (.refused _) (.raise ..))

theorem Ends.requiresCp0 {s : State} {k : Host.Outcome State Fault Refusal} (h : Ends s k) : Ends s (s.requiresCp0 k) :=
  .ite h (.raise ..)

theorem Ends.outsideSlot {s : State} {k : Host.Outcome State Fault Refusal} (h : Ends s k) : Ends s (s.outsideSlot k) :=
  .ite (.refused _) h

/-- An access followed by a completion. -/
theorem Ends.finish {α : Type} {s : State} {m : Access α} {k : α → State → State} (h : m.Tame s)
    (g : ∀ a t, Completed t (k a t)) : Ends s (m.andThen fun a t => .ok () (k a t)).finish := by
  cases m with
  | ok a t => exact .of_same h (.next (g a t))
  | raise e t => exact .of_same h (.raise t e)
  | shutdown t => exact ⟨fun u hu => .inl ⟨t, h, .inr (.inl (by cases hu; rfl))⟩⟩
  | hang t => exact ⟨fun u hu => .inl ⟨t, h, .inr (.inr (by cases hu; rfl))⟩⟩
  | refuse r => exact .refused r
  | fault f => exact ⟨fun u hu => nomatch hu⟩

theorem State.result_ends (s : State) (r : Reg) (v : DWord) : Ends s (s.result r v) :=
  .next ((Completed.advance s).setReg r v)

theorem State.wordResult_ends (s : State) (r : Reg) (d : Bool) (v : Word32) : Ends s (s.wordResult r d v) :=
  s.result_ends ..

theorem State.wordResultOrOverflow_ends (s : State) (r : Reg) (d o : Bool) (v : Word32) :
    Ends s (s.wordResultOrOverflow r d o v) := .ite (.raise ..) (s.wordResult_ends ..)

theorem State.dwordResult_ends (s : State) (r : Reg) (v : DWord) : Ends s (s.dwordResult r v) :=
  .requires64 (s.result_ends ..)

theorem State.dwordResultOrOverflow_ends (s : State) (r : Reg) (o : Bool) (v : DWord) :
    Ends s (s.dwordResultOrOverflow r o v) := .requires64 (.ite (.raise ..) (s.result_ends ..))

theorem State.execLoad_ends (s : State) (base rt : Reg) (offset : BitVec 16) (n : Nat) (f : DWord → DWord) :
    Ends s (s.execLoad base rt offset n f) :=
  .finish (s.load_tame ..) fun _ t => (Completed.advance t).setReg ..

theorem State.execLoadPart_ends (s : State) (base rt : Reg) (offset : BitVec 16) (part : Bool → DWord → Part)
    (merge : Nat → DWord → DWord → DWord) : Ends s (s.execLoadPart base rt offset part merge) :=
  .finish (s.loadPart_tame ..) fun _ t => (Completed.advance t).setReg ..

theorem State.execStore_ends (s : State) (base rt : Reg) (offset : BitVec 16) (n : Nat) :
    Ends s (s.execStore base rt offset n) :=
  .finish (s.store_tame ..) fun _ t => Completed.advance t

theorem State.execStorePart_ends (s : State) (base rt : Reg) (offset : BitVec 16) (part : Bool → DWord → Part)
    (value : Nat → DWord → DWord) : Ends s (s.execStorePart base rt offset part value) :=
  .finish (s.storePart_tame ..) fun _ t => Completed.advance t

theorem State.execHiLo_ends (s : State) (rs rt : Reg) (n : Nat) (f : DWord → DWord → Option HiLo) :
    Ends s (s.execHiLo rs rt n f) :=
  .next (.from_hiLoHazard { Completed.advance s.hiLoHazard with })

theorem State.jump_ends (s : State) (target : DWord) : Ends s (s.jump target) :=
  .outsideSlot (.next (.retire _ _ _ _ nofun))

theorem State.jumpAndLink_ends (s : State) (r : Reg) (target : DWord) : Ends s (s.jumpAndLink r target) :=
  .outsideSlot (.next ((Completed.retire s s.npc target true nofun).setReg ..))

theorem Completed.branchState (s : State) (b : Bool) (offset : BitVec 16) : Completed s (s.branchState b offset) := by
  cases b <;> exact .retire _ _ _ _ nofun

theorem Completed.branchLikelyState (s : State) (b : Bool) (offset : BitVec 16) :
    Completed s (s.branchLikelyState b offset) := by
  cases b
  · exact .nullifySlot s
  · exact .retire _ _ _ _ nofun

theorem State.branch_ends (s : State) (b : Bool) (offset : BitVec 16) : Ends s (s.branch b offset) :=
  .outsideSlot (.next (.branchState ..))

theorem State.branchAndLink_ends (s : State) (b : Bool) (offset : BitVec 16) : Ends s (s.branchAndLink b offset) :=
  .outsideSlot (.next ((Completed.branchState ..).setReg ..))

theorem State.branchLikely_ends (s : State) (b : Bool) (offset : BitVec 16) : Ends s (s.branchLikely b offset) :=
  .outsideSlot (.next (.branchLikelyState ..))

theorem State.branchLikelyAndLink_ends (s : State) (b : Bool) (offset : BitVec 16) :
    Ends s (s.branchLikelyAndLink b offset) :=
  .outsideSlot (.next ((Completed.branchLikelyState ..).setReg ..))

theorem State.trapIf_ends (s : State) (c : Bool) : Ends s (s.trapIf c) := .ite (.raise ..) (.next (.advance s))

theorem State.cacheOperation_ends (s : State) (base : Reg) (offset : BitVec 16) (op : DWord → PAddr → State → Access Unit)
    (h : ∀ va pa t, (op va pa t).Tame t) : Ends s (s.cacheOperation base offset op) := by
  refine .requiresCp0 ?_
  generalize ht : s.translate (s.effectiveAddress base offset) .load = m
  have hm : m.Tame s := ht ▸ s.translate_tame ..
  cases m with
  | ok tr t => exact .of_same hm (.finish (h ..) fun _ u => Completed.advance u)
  | raise e t => exact .of_same hm (.raise t e)
  | shutdown t => exact ⟨fun u hu => .inl ⟨t, hm, .inr (.inl (by cases hu; rfl))⟩⟩
  | hang t => exact ⟨fun u hu => .inl ⟨t, hm, .inr (.inr (by cases hu; rfl))⟩⟩
  | refuse r => exact .refused r
  | fault f => exact ⟨fun u hu => nomatch hu⟩

theorem SameCore.invalidateD (s : State) (i : BitVec 6) : SameCore s (s.invalidateD i) := SameCore.setDLine ..
theorem SameCore.invalidateI (s : State) (i : BitVec 7) : SameCore s (s.invalidateI i) := SameCore.setILine ..

theorem State.onILine_tame {i : BitVec 7} {k : ICacheLine → State → Access Unit} {s : State} (h : (k (s.iLine i) s).Tame s) :
    (s.onILine i k).Tame s := .ite (.raise _ (SameCore.refl s)) h

theorem State.onDLine_tame {i : BitVec 6} {k : DCacheLine → State → Access Unit} {s : State} (h : (k (s.dLine i) s).Tame s) :
    (s.onDLine i k).Tame s := .ite (.raise _ (SameCore.refl s)) h

theorem SameCore.ite {s t u : State} {c : Prop} [Decidable c] (h : SameCore s t) (g : SameCore s u) :
    SameCore s (if c then t else u) := by
  split <;> assumption

theorem indexInvalidateI_tame (va : DWord) (pa : PAddr) (s : State) : (indexInvalidateI va pa s).Tame s :=
  State.onILine_tame (.ok _ (.invalidateI ..))

theorem indexWriteBackInvalidateD_tame (va : DWord) (pa : PAddr) (s : State) : (indexWriteBackInvalidateD va pa s).Tame s :=
  State.onDLine_tame (.ok _ ((SameCore.writeBackIfDirty ..).trans (.invalidateD ..)))

theorem indexStoreTagI_tame (va : DWord) (pa : PAddr) (s : State) : (indexStoreTagI va pa s).Tame s :=
  State.onILine_tame (.ok _ (.setILine ..))

theorem indexStoreTagD_tame (va : DWord) (pa : PAddr) (s : State) : (indexStoreTagD va pa s).Tame s :=
  State.onDLine_tame (.ok _ (.setDLine ..))

theorem createDirtyD_tame (va : DWord) (pa : PAddr) (s : State) : (createDirtyD va pa s).Tame s := by
  unfold createDirtyD
  exact State.onDLine_tame (.ok _ ((SameCore.ite (SameCore.refl s) (.writeBackIfDirty ..)).trans (.setDLine ..)))

theorem hitInvalidateI_tame (va : DWord) (pa : PAddr) (s : State) : (hitInvalidateI va pa s).Tame s :=
  State.onILine_tame (.ok _ (.ite (.invalidateI ..) (.refl s)))

theorem hitInvalidateD_tame (va : DWord) (pa : PAddr) (s : State) : (hitInvalidateD va pa s).Tame s :=
  State.onDLine_tame (.ok _ (.ite (.invalidateD ..) (.refl s)))

theorem fillI_tame (va : DWord) (pa : PAddr) (s : State) : (fillI va pa s).Tame s := by
  unfold fillI
  exact State.onILine_tame ((State.fillInstruction_tame ..).andThen fun _ t _ => .ok _ (SameCore.setILine t _ _))

theorem hitWriteBackInvalidateD_tame (va : DWord) (pa : PAddr) (s : State) : (hitWriteBackInvalidateD va pa s).Tame s := by
  unfold hitWriteBackInvalidateD
  exact State.onDLine_tame (.ok _ (.ite ((SameCore.writeBackIfDirty ..).trans (.invalidateD ..)) (.refl s)))

theorem hitWriteBackI_tame (va : DWord) (pa : PAddr) (s : State) : (hitWriteBackI va pa s).Tame s :=
  State.onILine_tame (.ok _ (.ite (.writeLine ..) (.refl s)))

theorem hitWriteBackD_tame (va : DWord) (pa : PAddr) (s : State) : (hitWriteBackD va pa s).Tame s :=
  State.onDLine_tame (.ok _ (.ite (.writeBackIfDirty ..) (.refl s)))

/-- The instructions that change CP0 registers other than Random, the TLB or the power mode when they complete. -/
def Instr.isControl (i : Instr) : Bool :=
  match i with
  | .mtc0 .. | .dmtc0 .. | .tlbr | .tlbwi | .tlbwr | .tlbp | .eret | .cacheIndexLoadTagI .. | .cacheIndexLoadTagD ..
  | .standby | .suspend | .hibernate => true
  | _ => false

/-- Any other instruction that answers a next state has taken an exception, shut the TLB down, hung, or completed without touching
the control state. -/
theorem exec_ends (i : Instr) (s : State) (h : Instr.isControl i = false) : Ends s (exec i s) := by
  cases i with
  | lb _ _ _ => exact s.execLoad_ends ..
  | lbu _ _ _ => exact s.execLoad_ends ..
  | lh _ _ _ => exact s.execLoad_ends ..
  | lhu _ _ _ => exact s.execLoad_ends ..
  | lw _ _ _ => exact s.execLoad_ends ..
  | lwu _ _ _ => exact .requires64 (s.execLoad_ends ..)
  | ld _ _ _ => exact .requires64 (s.execLoad_ends ..)
  | lwl _ _ _ => exact s.execLoadPart_ends ..
  | lwr _ _ _ => exact s.execLoadPart_ends ..
  | ldl _ _ _ => exact .requires64 (s.execLoadPart_ends ..)
  | ldr _ _ _ => exact .requires64 (s.execLoadPart_ends ..)
  | sb _ _ _ => exact s.execStore_ends ..
  | sh _ _ _ => exact s.execStore_ends ..
  | sw _ _ _ => exact s.execStore_ends ..
  | sd _ _ _ => exact .requires64 (s.execStore_ends ..)
  | swl _ _ _ => exact s.execStorePart_ends ..
  | swr _ _ _ => exact s.execStorePart_ends ..
  | sdl _ _ _ => exact .requires64 (s.execStorePart_ends ..)
  | sdr _ _ _ => exact .requires64 (s.execStorePart_ends ..)
  | addi _ _ _ => exact s.wordResultOrOverflow_ends ..
  | addiu _ _ _ => exact s.wordResult_ends ..
  | slti _ _ _ => exact s.result_ends ..
  | sltiu _ _ _ => exact s.result_ends ..
  | andi _ _ _ => exact s.result_ends ..
  | ori _ _ _ => exact s.result_ends ..
  | xori _ _ _ => exact s.result_ends ..
  | daddi _ _ _ => exact s.dwordResultOrOverflow_ends ..
  | daddiu _ _ _ => exact s.dwordResult_ends ..
  | lui _ _ => exact s.result_ends ..
  | add _ _ _ => exact s.wordResultOrOverflow_ends ..
  | addu _ _ _ => exact s.wordResult_ends ..
  | sub _ _ _ => exact s.wordResultOrOverflow_ends ..
  | subu _ _ _ => exact s.wordResult_ends ..
  | slt _ _ _ => exact s.result_ends ..
  | sltu _ _ _ => exact s.result_ends ..
  | and _ _ _ => exact s.result_ends ..
  | or _ _ _ => exact s.result_ends ..
  | xor _ _ _ => exact s.result_ends ..
  | nor _ _ _ => exact s.result_ends ..
  | dadd _ _ _ => exact s.dwordResultOrOverflow_ends ..
  | daddu _ _ _ => exact s.dwordResult_ends ..
  | dsub _ _ _ => exact s.dwordResultOrOverflow_ends ..
  | dsubu _ _ _ => exact s.dwordResult_ends ..
  | sll _ _ _ => exact s.wordResult_ends ..
  | srl _ _ _ => exact s.wordResult_ends ..
  | sra _ _ _ => exact s.wordResult_ends ..
  | dsll _ _ _ => exact s.dwordResult_ends ..
  | dsrl _ _ _ => exact s.dwordResult_ends ..
  | dsra _ _ _ => exact s.dwordResult_ends ..
  | dsll32 _ _ _ => exact s.dwordResult_ends ..
  | dsrl32 _ _ _ => exact s.dwordResult_ends ..
  | dsra32 _ _ _ => exact s.dwordResult_ends ..
  | sllv _ _ _ => exact s.wordResult_ends ..
  | srlv _ _ _ => exact s.wordResult_ends ..
  | srav _ _ _ => exact s.wordResult_ends ..
  | dsllv _ _ _ => exact s.dwordResult_ends ..
  | dsrlv _ _ _ => exact s.dwordResult_ends ..
  | dsrav _ _ _ => exact s.dwordResult_ends ..
  | mult _ _ => exact s.execHiLo_ends ..
  | multu _ _ => exact s.execHiLo_ends ..
  | div _ _ => exact s.execHiLo_ends ..
  | divu _ _ => exact s.execHiLo_ends ..
  | dmult _ _ => exact .requires64 (s.execHiLo_ends ..)
  | dmultu _ _ => exact .requires64 (s.execHiLo_ends ..)
  | ddiv _ _ => exact .requires64 (s.execHiLo_ends ..)
  | ddivu _ _ => exact .requires64 (s.execHiLo_ends ..)
  | mfhi _ => exact .next { (Completed.advance s).setReg _ _ with }
  | mthi _ => exact .next (.from_hiLoHazard { Completed.advance s.hiLoHazard with })
  | mflo _ => exact .next { (Completed.advance s).setReg _ _ with }
  | mtlo _ => exact .next (.from_hiLoHazard { Completed.advance s.hiLoHazard with })
  | madd16 _ _ => exact s.execHiLo_ends ..
  | dmadd16 _ _ => exact .requires64 (s.execHiLo_ends ..)
  | j _ => exact s.jump_ends ..
  | jal _ => exact s.jumpAndLink_ends ..
  | jr _ => exact s.jump_ends ..
  | jalr _ _ => exact s.jumpAndLink_ends ..
  | beq _ _ _ => exact s.branch_ends ..
  | bne _ _ _ => exact s.branch_ends ..
  | blez _ _ => exact s.branch_ends ..
  | bgtz _ _ => exact s.branch_ends ..
  | bltz _ _ => exact s.branch_ends ..
  | bgez _ _ => exact s.branch_ends ..
  | bltzal _ _ => exact s.branchAndLink_ends ..
  | bgezal _ _ => exact s.branchAndLink_ends ..
  | bltzl _ _ => exact s.branchLikely_ends ..
  | bgezl _ _ => exact s.branchLikely_ends ..
  | bltzall _ _ => exact s.branchLikelyAndLink_ends ..
  | bgezall _ _ => exact s.branchLikelyAndLink_ends ..
  | beql _ _ _ => exact s.branchLikely_ends ..
  | bnel _ _ _ => exact s.branchLikely_ends ..
  | blezl _ _ => exact s.branchLikely_ends ..
  | bgtzl _ _ => exact s.branchLikely_ends ..
  | syscall _ => exact .raise ..
  | brk _ => exact .raise ..
  | sync => exact .next (.advance s)
  | tge _ _ _ => exact s.trapIf_ends ..
  | tgeu _ _ _ => exact s.trapIf_ends ..
  | tlt _ _ _ => exact s.trapIf_ends ..
  | tltu _ _ _ => exact s.trapIf_ends ..
  | teq _ _ _ => exact s.trapIf_ends ..
  | tne _ _ _ => exact s.trapIf_ends ..
  | tgei _ _ => exact s.trapIf_ends ..
  | tgeiu _ _ => exact s.trapIf_ends ..
  | tlti _ _ => exact s.trapIf_ends ..
  | tltiu _ _ => exact s.trapIf_ends ..
  | teqi _ _ => exact s.trapIf_ends ..
  | tnei _ _ => exact s.trapIf_ends ..
  | ll _ _ _ => exact .raise ..
  | sc _ _ _ => exact .raise ..
  | lld _ _ _ => exact .raise ..
  | scd _ _ _ => exact .raise ..
  | cop1 _ => exact .raise ..
  | lwc1 _ _ _ => exact .raise ..
  | swc1 _ _ _ => exact .raise ..
  | ldc1 _ _ _ => exact .raise ..
  | sdc1 _ _ _ => exact .raise ..
  | cop2 _ => exact .raise ..
  | cop3 _ => exact .raise ..
  | lwc2 _ _ _ => exact .raise ..
  | swc2 _ _ _ => exact .raise ..
  | ldc2 _ _ _ => exact .raise ..
  | sdc2 _ _ _ => exact .raise ..
  | mfc0 _ _ => exact .requiresCp0 (.ite (.refused _) (s.result_ends ..))
  | mtc0 _ _ => exact Bool.noConfusion h
  | dmfc0 _ _ => exact .requiresCp0 (.requires64 (.ite (.refused _) (.ite (s.result_ends ..) (.refused _))))
  | dmtc0 _ _ => exact Bool.noConfusion h
  | tlbr => exact Bool.noConfusion h
  | tlbwi => exact Bool.noConfusion h
  | tlbwr => exact Bool.noConfusion h
  | tlbp => exact Bool.noConfusion h
  | eret => exact Bool.noConfusion h
  | cacheIndexInvalidateI _ _ => exact s.cacheOperation_ends _ _ _ indexInvalidateI_tame
  | cacheIndexWriteBackInvalidateD _ _ => exact s.cacheOperation_ends _ _ _ indexWriteBackInvalidateD_tame
  | cacheIndexLoadTagI _ _ => exact Bool.noConfusion h
  | cacheIndexLoadTagD _ _ => exact Bool.noConfusion h
  | cacheIndexStoreTagI _ _ => exact s.cacheOperation_ends _ _ _ indexStoreTagI_tame
  | cacheIndexStoreTagD _ _ => exact s.cacheOperation_ends _ _ _ indexStoreTagD_tame
  | cacheCreateDirtyD _ _ => exact s.cacheOperation_ends _ _ _ createDirtyD_tame
  | cacheHitInvalidateI _ _ => exact s.cacheOperation_ends _ _ _ hitInvalidateI_tame
  | cacheHitInvalidateD _ _ => exact s.cacheOperation_ends _ _ _ hitInvalidateD_tame
  | cacheFillI _ _ => exact s.cacheOperation_ends _ _ _ fillI_tame
  | cacheHitWriteBackInvalidateD _ _ => exact s.cacheOperation_ends _ _ _ hitWriteBackInvalidateD_tame
  | cacheHitWriteBackI _ _ => exact s.cacheOperation_ends _ _ _ hitWriteBackI_tame
  | cacheHitWriteBackD _ _ => exact s.cacheOperation_ends _ _ _ hitWriteBackD_tame
  | standby => exact Bool.noConfusion h
  | suspend => exact Bool.noConfusion h
  | hibernate => exact Bool.noConfusion h

/-- What an abandoned instruction leaves, in the terms of the statements. -/
theorem Trapped.endsEarly {s t : State} (h : Trapped s t) : EndsEarly s t := by
  obtain ⟨u, hu, ht⟩ := h
  refine ⟨u, ?_⟩
  rw [hu.same] at ht ⊢
  exact ⟨by constructor <;> rfl, rfl, fun _ _ => rfl, ⟨rfl, rfl⟩, ht⟩

/-- What an address is on after the environment has put one on a list or taken it off. -/
theorem mem_setPresent {n : Nat} {w x : BitVec n} {present : Bool} {ws : List (BitVec n)} :
    x ∈ setPresent w present ws ↔ if x = w then present = true else x ∈ ws := by
  unfold setPresent
  by_cases hx : x = w
  · subst hx; cases present <;> simp; split <;> simp_all
  · cases present
    · simp [hx]
    · simp only [if_true, hx, if_false]
      split <;> simp [hx]

end Sys2Proof.Machine
end

