-- ==== Sys2Proof/Laws/Cache.lean ====
section
/-! SUPPORT. Lines of memory and of the caches: what a line write leaves in memory, the parity of a filled line, and what
making a line present does when nothing is in error (20:R141, R142, R144). -/

namespace Sys2Proof.Machine

/-- A physical address is its line and the place in the line. -/
theorem lineOf_append_lineOffset (a : PAddr) : lineOf a ++ lineOffset a = a := by
  exact (extract_append_extract a 0 4 28).trans (extract_whole a)

/-- A line is a tag and a data cache index. -/
theorem tagOf_append_dIndex (a : PAddr) : tagOf a ++ dIndex a = lineOf a := by
  unfold tagOf dIndex lineOf
  exact extract_append_extract a 4 6 22

theorem append_inj {w v : Nat} {x x' : BitVec w} {y y' : BitVec v} (h : x ++ y = x' ++ y') : x = x' ∧ y = y' := by
  constructor
  · have := congrArg (BitVec.extractLsb' v w) h
    rw [extract_append_high _ _ _ _ (le_refl v), extract_append_high _ _ _ _ (le_refl v)] at this
    simpa using this
  · have := congrArg (BitVec.extractLsb' 0 v) h
    rw [extract_append_low _ _ _ _ (by omega), extract_append_low _ _ _ _ (by omega)] at this
    simpa using this

theorem lineOf_lineByte (line : BitVec 28) (k : Nat) : lineOf (lineByte line k) = line :=
  (append_inj (lineOf_append_lineOffset (lineByte line k))).1

theorem lineOffset_lineByte (line : BitVec 28) (k : Nat) : lineOffset (lineByte line k) = BitVec.ofNat 4 k :=
  (append_inj (lineOf_append_lineOffset (lineByte line k))).2

theorem lineByte_lineOf (a : PAddr) : lineByte (lineOf a) (lineOffset a).toNat = a := by
  unfold lineByte
  rw [BitVec.ofNat_toNat, BitVec.setWidth_eq, lineOf_append_lineOffset]

/-- Several writes to different addresses: each address reads what it was given. -/
theorem Memory.read_writeAll_same {a : PAddr} {b : Byte} :
    ∀ (ws : List (PAddr × Byte)) {m : Memory}, m.wf = true → (ws.map Prod.fst).Nodup → (a, b) ∈ ws →
      (m.writeAll ws).read a = b
  | [], _, _, _, h => absurd h (by simp)
  | w :: ws, m, hm, hn, h => by
    rw [List.map_cons, List.nodup_cons] at hn
    rcases List.mem_cons.1 h with rfl | h
    · exact (Memory.read_writeAll_other ws hn.1 (Memory.wf_write _ _ hm)).trans (Memory.read_write_same _ _ hm)
    · exact Memory.read_writeAll_same ws (Memory.wf_write w.1 w.2 hm) hn.2 h

theorem lineByte_nodup (line : BitVec 28) (data : Vector Byte 16) :
    (((List.finRange 16).map fun i => (lineByte line i.val, data[i])).map Prod.fst).Nodup := by
  rw [List.map_map]
  refine List.Nodup.map (fun i j h => ?_) (List.nodup_finRange 16)
  have := congrArg lineOffset h
  simp only [Function.comp_apply, lineOffset_lineByte] at this
  have h2 := congrArg BitVec.toNat this
  simp only [BitVec.toNat_ofNat] at h2
  exact Fin.ext (by omega)

/-- A byte of a line just written. -/
theorem Memory.read_writeLine_same {m : Memory} (line : BitVec 28) (data : Vector Byte 16) (h : m.wf = true) (k : Fin 16) :
    (m.writeLine line data).read (lineByte line k.val) = data[k] :=
  Memory.read_writeAll_same _ h (lineByte_nodup line data) (List.mem_map.2 ⟨k, List.mem_finRange k, rfl⟩)

/-- A byte outside a line just written. -/
theorem Memory.read_writeLine_other {m : Memory} {line : BitVec 28} (data : Vector Byte 16) (h : m.wf = true) {a : PAddr}
    (ha : lineOf a ≠ line) : (m.writeLine line data).read a = m.read a := by
  refine Memory.read_writeAll_other _ (fun hm => ha ?_) h
  rw [List.map_map, List.mem_map] at hm
  obtain ⟨k, -, rfl⟩ := hm
  exact lineOf_lineByte ..

/-- The bit vector of some bits has them. -/
theorem bitsOf_getLsbD (w : Nat) (f : Nat → Bool) (i : Nat) (h : i < w) : (bitsOf w f).getLsbD i = f i := by
  have key : ∀ n, n ≤ w → ∀ j, j < w →
      ((List.range n).foldl (fun acc i => acc ||| ((BitVec.ofBool (f i)).setWidth w <<< i)) (0 : BitVec w)).getLsbD j
        = (decide (j < n) && f j) := by
    intro n
    induction n with
    | zero => intro _ j _; simp
    | succ n ih =>
      intro hn j hj
      rw [List.range_succ, List.foldl_append, List.foldl_cons, List.foldl_nil, BitVec.getLsbD_or, ih (by omega) j hj]
      rw [BitVec.getLsbD_shiftLeft, BitVec.getLsbD_setWidth]
      by_cases h1 : j < n
      · simp [h1, show j < n + 1 by omega]
      · by_cases h2 : j = n
        · subst h2
          simp [hj, show (0:Nat) < w by omega]
        · have h3 : ¬j < n + 1 := by omega
          have h4 : j - n ≠ 0 := by omega
          simp [h1, h3]
          intros
          omega
  exact (key w (le_refl w) i h).trans (by simp [h])

/-- A line just read from memory has no tag parity error (20:R141, R155). -/
theorem DCacheLine.filled_tagError (pa : PAddr) (data : Vector Byte 16) (wrong : BitVec 16) :
    (DCacheLine.filled pa data wrong).tagError = false := by
  simp [DCacheLine.tagError, DCacheLine.filled]

/-- A line just read from memory has a data parity error where the external agent supplied a wrong bit (20:R156). -/
theorem DCacheLine.filled_byteError (pa : PAddr) (data : Vector Byte 16) (wrong : BitVec 16) (o : BitVec 4) :
    (DCacheLine.filled pa data wrong).byteError o = wrong.getLsbD o.toNat := by
  have h := bitsOf_getLsbD 16 (fun i => if h : i < 16 then evenParity (data[i]'h) else false) o.toNat o.isLt
  simp only [DCacheLine.byteError, DCacheLine.filled, DCacheLine.byte, byteParities, BitVec.getLsbD_xor]
  rw [h, dif_pos o.isLt]
  cases evenParity (data[o.toNat]'o.isLt) <;> simp

theorem DCacheLine.dataError_of_byteError {l : DCacheLine} (h : ∀ o, l.byteError o = false) : l.dataError = false := by
  simp [DCacheLine.dataError, h]

theorem State.dLine_congr {s t : State} (h : t.dcache = s.dcache) (i : BitVec 6) : t.dLine i = s.dLine i := by
  simp only [State.dLine, h]

theorem State.iLine_congr {s t : State} (h : t.icache = s.icache) (i : BitVec 7) : t.iLine i = s.iLine i := by
  simp only [State.iLine, h]

/-- The read of a line gives the bytes of memory. -/
theorem DCacheLine.filled_byte (pa a : PAddr) (m : Memory) (wrong : BitVec 16) (h : lineOf a = lineOf pa) :
    (DCacheLine.filled pa (m.readLine (lineOf pa)) wrong).byte (lineOffset a) = m.read a := by
  simp only [DCacheLine.byte, DCacheLine.filled, Memory.readLine]
  rw [Vector.getElem_ofFn, ← h, lineByte_lineOf]

theorem State.writeBack_mem (i : BitVec 6) (s : State) :
    (s.writeBack i).mem = s.mem.writeLine ((s.dLine i).address i) (s.dLine i).data := rfl

/-- A write-back puts the bytes of the line into memory (20:R144). -/
theorem State.writeBack_read_hit {s : State} (h : s.mem.wf = true) {i : BitVec 6} {a : PAddr} (ha : dIndex a = i)
    (ht : (s.dLine i).ptag = tagOf a) : (s.writeBack i).mem.read a = (s.dLine i).byte (lineOffset a) := by
  have hline : (s.dLine i).address i = lineOf a := by
    unfold DCacheLine.address
    rw [ht, ← ha, tagOf_append_dIndex]
  have hr := Memory.read_writeLine_same (lineOf a) (s.dLine i).data h ⟨(lineOffset a).toNat, (lineOffset a).isLt⟩
  rw [lineByte_lineOf] at hr
  rw [State.writeBack_mem, hline, hr]
  rfl

/-- A write-back changes no other byte of memory (20:R144). -/
theorem State.writeBack_read_other {s : State} (h : s.mem.wf = true) {i : BitVec 6} {a : PAddr}
    (ha : ¬(dIndex a = i ∧ (s.dLine i).ptag = tagOf a)) : (s.writeBack i).mem.read a = s.mem.read a := by
  rw [State.writeBack_mem]
  refine Memory.read_writeLine_other _ h fun hl => ha ?_
  rw [← tagOf_append_dIndex] at hl
  exact ⟨(append_inj hl).2, (append_inj hl).1.symm⟩

theorem State.evict_of_clean {s : State} (h : s.Clean) (i : BitVec 6) :
    s.evict i = .ok () (if (s.dLine i).dirty then s.writeBack i else s) := by
  unfold State.evict
  dsimp only
  rw [h.dataTags, DCacheLine.dataError_of_byteError (h.dataBytes i)]
  simp only [Bool.and_false, Bool.false_eq_true, if_false]
  split <;> rfl

theorem State.writeBack_icache (i : BitVec 6) (s : State) : (s.writeBack i).icache = s.icache := by
  unfold State.writeBack State.setDLine State.mapMem
  rfl

theorem State.writeBack_dLine_other {i j : BitVec 6} {s : State} (h : j ≠ i) : (s.writeBack i).dLine j = s.dLine j := by
  unfold State.writeBack
  rw [State.dLine_setDLine_other _ _ h]
  unfold State.dLine State.mapMem
  rfl

/-- Making room at an index, nothing being in error: memory then holds every byte that a load found. -/
theorem State.evict_clean {s : State} (h : s.Clean) (i : BitVec 6) :
    ∃ t, s.evict i = .ok () t ∧ SameCore s t ∧ t.icache = s.icache ∧ t.mem.wf = true
      ∧ (∀ j, j ≠ i → t.dLine j = s.dLine j)
      ∧ (∀ a, dIndex a = i → t.mem.read a = s.byteAt a) ∧ ∀ a, dIndex a ≠ i → t.mem.read a = s.mem.read a := by
  rw [State.evict_of_clean h]
  by_cases hd : (s.dLine i).dirty = true
  · rw [if_pos hd]
    have hv : (s.dLine i).v = true := by simp only [DCacheLine.dirty, Bool.and_eq_true] at hd; exact hd.1
    refine ⟨s.writeBack i, rfl, SameCore.writeBack s i, State.writeBack_icache i s, ?_,
      fun j hj => State.writeBack_dLine_other hj, fun a ha => ?_, fun a ha => State.writeBack_read_other h.memory fun hl => ha hl.1⟩
    · exact (SameCore.writeBack s i).wf h.memory
    · unfold State.byteAt State.cachedByte
      rw [ha]
      by_cases ht : (s.dLine i).ptag = tagOf a
      · rw [if_pos (by simp [DCacheLine.hit, hv, ht]), State.writeBack_read_hit h.memory ha ht]
      · rw [if_neg (by simp [DCacheLine.hit, ht]), State.writeBack_read_other h.memory fun hl => ht hl.2]
  · rw [if_neg hd]
    refine ⟨s, rfl, SameCore.refl s, rfl, h.memory, fun _ _ => rfl, fun a ha => ?_, fun _ _ => rfl⟩
    unfold State.byteAt
    by_cases ht : (s.dLine (dIndex a)).hit a = true
    · rw [if_pos ht]
      refine (h.cleanLines a ht ?_).symm
      rw [ha] at ht ⊢
      simp only [DCacheLine.hit, Bool.and_eq_true] at ht
      simp only [DCacheLine.dirty, ht.1, Bool.true_and] at hd
      exact Bool.eq_false_iff.2 hd
    · rw [if_neg ht]

/-- Where no parity is supplied wrong, a filled line has the right one. -/
theorem State.wrongParity_of_nil {s : State} (h : s.badParity = []) (line : BitVec 28) : s.wrongParity line = 0 := by
  unfold State.wrongParity
  rw [h]
  split
  · rfl
  · simp only [List.contains_nil]
    decide

/-- Making the line of an address present, nothing being in error: it completes, every byte of memory reads as before, the
line holds the address, and nothing is in error afterwards. -/
theorem State.openLine_clean {s : State} (h : s.Clean) (pa : PAddr) :
    ∃ t, s.openLine pa = .ok () t ∧ SameCore s t ∧ t.icache = s.icache ∧ (t.dLine (dIndex pa)).hit pa = true
      ∧ (∀ a, t.byteAt a = s.byteAt a) ∧ t.Clean := by
  unfold State.openLine
  dsimp only
  by_cases hh : (s.dLine (dIndex pa)).hit pa = true
  · rw [if_pos hh, h.dataTags]
    simp only [Bool.and_false, Bool.false_eq_true, if_false]
    exact ⟨s, rfl, SameCore.refl s, rfl, hh, fun _ => rfl, h⟩
  · rw [if_neg hh]
    obtain ⟨u, hu, hsame, hic, hwf, hother, hmem, hmem'⟩ := State.evict_clean h (dIndex pa)
    rw [hu]
    have hb : u.busErrors = [] := by rw [hsame.same]; exact h.noBusError
    have hp : u.badParity = [] := by rw [hsame.same]; exact h.noBadParity
    let i := dIndex pa
    let w := u.setDLine i { u.dLine i with v := false }
    let t := w.setDLine i (DCacheLine.filled pa (w.mem.readLine (lineOf pa)) (w.wrongParity (lineOf pa)))
    have hn : u.noResponse = [] := by rw [hsame.same]; exact h.answered
    have hw0 : w.wrongParity (lineOf pa) = 0 := State.wrongParity_of_nil hp _
    have hfill : u.fillData pa = .ok () t := by
      unfold State.fillData State.busRead
      simp only [State.setDLine_badParity, State.setDLine_busErrors, State.setDLine_noResponse, hn, hb, hp,
        List.any_nil, Bool.and_false, Bool.false_eq_true,
        if_false]
      rfl
    have hti : t.dLine i = DCacheLine.filled pa (u.mem.readLine (lineOf pa)) 0 := by
      rw [← hw0]; exact State.dLine_setDLine_same ..
    have hto : ∀ j, j ≠ i → t.dLine j = s.dLine j := fun j hj =>
      (State.dLine_setDLine_other _ _ hj).trans ((State.dLine_setDLine_other _ _ hj).trans (hother j hj))
    have hbyte : ∀ a, t.byteAt a = s.byteAt a := by
      intro a
      by_cases ha : dIndex a = i
      · rw [← hmem a ha]
        unfold State.byteAt State.cachedByte
        rw [ha, hti]
        by_cases ht : (DCacheLine.filled pa (u.mem.readLine (lineOf pa)) 0).hit a = true
        · rw [if_pos ht]
          refine DCacheLine.filled_byte pa a u.mem 0 ?_
          simp only [DCacheLine.hit, DCacheLine.filled, Bool.true_and, beq_iff_eq] at ht
          rw [← tagOf_append_dIndex, ← tagOf_append_dIndex pa, ht, ha]
        · rw [if_neg ht]; rfl
      · unfold State.byteAt State.cachedByte
        rw [hto _ ha]
        split
        · rfl
        · exact hmem' a ha
    refine ⟨t, hfill, hsame.trans ((SameCore.setDLine ..).trans (SameCore.setDLine ..)), hic, ?_, hbyte, ?_⟩
    · rw [hti]; simp [DCacheLine.hit, DCacheLine.filled]
    · refine ⟨hb, hp, hn, fun j => ?_, fun j o => ?_, fun j => ?_, fun a ht hw => ?_, hwf⟩
      · by_cases hj : j = i
        · rw [hj, hti]; exact DCacheLine.filled_tagError ..
        · rw [hto j hj]; exact h.dataTags j
      · by_cases hj : j = i
        · rw [hj, hti, DCacheLine.filled_byteError]; exact BitVec.getLsbD_zero
        · rw [hto j hj]; exact h.dataBytes j o
      · rw [State.iLine_congr (s := s) (t := t) hic]; exact h.instructionTags j
      · by_cases ha : dIndex a = i
        · rw [show t.mem.read a = u.mem.read a from rfl, hmem a ha, ← hbyte a]
          unfold State.byteAt
          rw [if_pos ht]
        · have hcb : t.cachedByte a = s.cachedByte a := by unfold State.cachedByte; rw [hto _ ha]
          rw [hcb, show t.mem.read a = u.mem.read a from rfl, hmem' a ha]
          rw [hto _ ha] at ht hw
          exact h.cleanLines a ht hw

/-- A filled instruction cache line has right tag parity (20:R156). -/
theorem ICacheLine.filled_tagError (pa : PAddr) (data : Vector Byte 16) (wrong : BitVec 16) :
    (ICacheLine.filled pa data wrong).tagError = false := by
  simp [ICacheLine.filled, ICacheLine.tagError]

/-- A word of a filled instruction cache line has a parity error if an odd number of its bytes came with wrong parity. -/
theorem ICacheLine.filled_wordError (pa : PAddr) (data : Vector Byte 16) (wrong : BitVec 16) (k : BitVec 2) :
    (ICacheLine.filled pa data wrong).wordError k = (oddNibbles wrong).getLsbD k.toNat := by
  have h : ∀ l : ICacheLine, (wordParities l).getLsbD k.toNat = evenParity (l.wordBytes k) := fun l => by
    rw [wordParities, bitsOf_getLsbD 4 _ _ k.isLt, BitVec.ofNat_toNat, BitVec.setWidth_eq]
  have e : ∀ a b c : Bool, a = c → ((a ^^ b) != c) = b := by decide
  rw [ICacheLine.wordError, ICacheLine.filled, BitVec.getLsbD_xor]
  exact e _ _ _ (h _)

end Sys2Proof.Machine
end

