-- ==== Sys2Proof/Laws/PerInstr.lean ====
section
/-! SUPPORT. One lemma for each instruction: the major opcode of its word (30:R164), which decides what is checked first
(45:R360). -/

namespace Sys2Proof.Laws.MajorOpcode

/-- The major opcode of an instruction, from the tables of 30:R164 and R167. -/
def table (i : Instr) : BitVec 6 :=
  match i with
  | .lb .. => 0x20
  | .lbu .. => 0x24
  | .lh .. => 0x21
  | .lhu .. => 0x25
  | .lw .. => 0x23
  | .lwu .. => 0x27
  | .ld .. => 0x37
  | .lwl .. => 0x22
  | .lwr .. => 0x26
  | .ldl .. => 0x1A
  | .ldr .. => 0x1B
  | .sb .. => 0x28
  | .sh .. => 0x29
  | .sw .. => 0x2B
  | .sd .. => 0x3F
  | .swl .. => 0x2A
  | .swr .. => 0x2E
  | .sdl .. => 0x2C
  | .sdr .. => 0x2D
  | .addi .. => 0x08
  | .addiu .. => 0x09
  | .slti .. => 0x0A
  | .sltiu .. => 0x0B
  | .andi .. => 0x0C
  | .ori .. => 0x0D
  | .xori .. => 0x0E
  | .daddi .. => 0x18
  | .daddiu .. => 0x19
  | .lui .. => 0x0F
  | .add .. => 0x00
  | .addu .. => 0x00
  | .sub .. => 0x00
  | .subu .. => 0x00
  | .slt .. => 0x00
  | .sltu .. => 0x00
  | .and .. => 0x00
  | .or .. => 0x00
  | .xor .. => 0x00
  | .nor .. => 0x00
  | .dadd .. => 0x00
  | .daddu .. => 0x00
  | .dsub .. => 0x00
  | .dsubu .. => 0x00
  | .sll .. => 0x00
  | .srl .. => 0x00
  | .sra .. => 0x00
  | .dsll .. => 0x00
  | .dsrl .. => 0x00
  | .dsra .. => 0x00
  | .dsll32 .. => 0x00
  | .dsrl32 .. => 0x00
  | .dsra32 .. => 0x00
  | .sllv .. => 0x00
  | .srlv .. => 0x00
  | .srav .. => 0x00
  | .dsllv .. => 0x00
  | .dsrlv .. => 0x00
  | .dsrav .. => 0x00
  | .mult .. => 0x00
  | .multu .. => 0x00
  | .div .. => 0x00
  | .divu .. => 0x00
  | .dmult .. => 0x00
  | .dmultu .. => 0x00
  | .ddiv .. => 0x00
  | .ddivu .. => 0x00
  | .mfhi .. => 0x00
  | .mthi .. => 0x00
  | .mflo .. => 0x00
  | .mtlo .. => 0x00
  | .madd16 .. => 0x00
  | .dmadd16 .. => 0x00
  | .j .. => 0x02
  | .jal .. => 0x03
  | .jr .. => 0x00
  | .jalr .. => 0x00
  | .beq .. => 0x04
  | .bne .. => 0x05
  | .blez .. => 0x06
  | .bgtz .. => 0x07
  | .bltz .. => 0x01
  | .bgez .. => 0x01
  | .bltzal .. => 0x01
  | .bgezal .. => 0x01
  | .bltzl .. => 0x01
  | .bgezl .. => 0x01
  | .bltzall .. => 0x01
  | .bgezall .. => 0x01
  | .beql .. => 0x14
  | .bnel .. => 0x15
  | .blezl .. => 0x16
  | .bgtzl .. => 0x17
  | .syscall .. => 0x00
  | .brk .. => 0x00
  | .sync => 0x00
  | .tge .. => 0x00
  | .tgeu .. => 0x00
  | .tlt .. => 0x00
  | .tltu .. => 0x00
  | .teq .. => 0x00
  | .tne .. => 0x00
  | .tgei .. => 0x01
  | .tgeiu .. => 0x01
  | .tlti .. => 0x01
  | .tltiu .. => 0x01
  | .teqi .. => 0x01
  | .tnei .. => 0x01
  | .ll .. => 0x30
  | .sc .. => 0x38
  | .lld .. => 0x34
  | .scd .. => 0x3C
  | .cop1 .. => 0x11
  | .lwc1 .. => 0x31
  | .swc1 .. => 0x39
  | .ldc1 .. => 0x35
  | .sdc1 .. => 0x3D
  | .cop2 .. => 0x12
  | .cop3 .. => 0x13
  | .lwc2 .. => 0x32
  | .swc2 .. => 0x3A
  | .ldc2 .. => 0x36
  | .sdc2 .. => 0x3E
  | .mfc0 .. => 0x10
  | .mtc0 .. => 0x10
  | .dmfc0 .. => 0x10
  | .dmtc0 .. => 0x10
  | .tlbr => 0x10
  | .tlbwi => 0x10
  | .tlbwr => 0x10
  | .tlbp => 0x10
  | .eret => 0x10
  | .cacheIndexInvalidateI .. => 0x2F
  | .cacheIndexWriteBackInvalidateD .. => 0x2F
  | .cacheIndexLoadTagI .. => 0x2F
  | .cacheIndexLoadTagD .. => 0x2F
  | .cacheIndexStoreTagI .. => 0x2F
  | .cacheIndexStoreTagD .. => 0x2F
  | .cacheCreateDirtyD .. => 0x2F
  | .cacheHitInvalidateI .. => 0x2F
  | .cacheHitInvalidateD .. => 0x2F
  | .cacheFillI .. => 0x2F
  | .cacheHitWriteBackInvalidateD .. => 0x2F
  | .cacheHitWriteBackI .. => 0x2F
  | .cacheHitWriteBackD .. => 0x2F
  | .standby => 0x10
  | .suspend => 0x10
  | .hibernate => 0x10

/-- Bits 31..26 of the instruction's word are its major opcode. -/
def Statement (i : Instr) : Prop := (encode i).extractLsb' 26 6 = table i

theorem lb (base : Reg) (rt : Reg) (offset : BitVec 16) : Statement (.lb base rt offset) := iType_op ..
theorem lbu (base : Reg) (rt : Reg) (offset : BitVec 16) : Statement (.lbu base rt offset) := iType_op ..
theorem lh (base : Reg) (rt : Reg) (offset : BitVec 16) : Statement (.lh base rt offset) := iType_op ..
theorem lhu (base : Reg) (rt : Reg) (offset : BitVec 16) : Statement (.lhu base rt offset) := iType_op ..
theorem lw (base : Reg) (rt : Reg) (offset : BitVec 16) : Statement (.lw base rt offset) := iType_op ..
theorem lwu (base : Reg) (rt : Reg) (offset : BitVec 16) : Statement (.lwu base rt offset) := iType_op ..
theorem ld (base : Reg) (rt : Reg) (offset : BitVec 16) : Statement (.ld base rt offset) := iType_op ..
theorem lwl (base : Reg) (rt : Reg) (offset : BitVec 16) : Statement (.lwl base rt offset) := iType_op ..
theorem lwr (base : Reg) (rt : Reg) (offset : BitVec 16) : Statement (.lwr base rt offset) := iType_op ..
theorem ldl (base : Reg) (rt : Reg) (offset : BitVec 16) : Statement (.ldl base rt offset) := iType_op ..
theorem ldr (base : Reg) (rt : Reg) (offset : BitVec 16) : Statement (.ldr base rt offset) := iType_op ..
theorem sb (base : Reg) (rt : Reg) (offset : BitVec 16) : Statement (.sb base rt offset) := iType_op ..
theorem sh (base : Reg) (rt : Reg) (offset : BitVec 16) : Statement (.sh base rt offset) := iType_op ..
theorem sw (base : Reg) (rt : Reg) (offset : BitVec 16) : Statement (.sw base rt offset) := iType_op ..
theorem sd (base : Reg) (rt : Reg) (offset : BitVec 16) : Statement (.sd base rt offset) := iType_op ..
theorem swl (base : Reg) (rt : Reg) (offset : BitVec 16) : Statement (.swl base rt offset) := iType_op ..
theorem swr (base : Reg) (rt : Reg) (offset : BitVec 16) : Statement (.swr base rt offset) := iType_op ..
theorem sdl (base : Reg) (rt : Reg) (offset : BitVec 16) : Statement (.sdl base rt offset) := iType_op ..
theorem sdr (base : Reg) (rt : Reg) (offset : BitVec 16) : Statement (.sdr base rt offset) := iType_op ..
theorem addi (rs : Reg) (rt : Reg) (imm : BitVec 16) : Statement (.addi rs rt imm) := iType_op ..
theorem addiu (rs : Reg) (rt : Reg) (imm : BitVec 16) : Statement (.addiu rs rt imm) := iType_op ..
theorem slti (rs : Reg) (rt : Reg) (imm : BitVec 16) : Statement (.slti rs rt imm) := iType_op ..
theorem sltiu (rs : Reg) (rt : Reg) (imm : BitVec 16) : Statement (.sltiu rs rt imm) := iType_op ..
theorem andi (rs : Reg) (rt : Reg) (imm : BitVec 16) : Statement (.andi rs rt imm) := iType_op ..
theorem ori (rs : Reg) (rt : Reg) (imm : BitVec 16) : Statement (.ori rs rt imm) := iType_op ..
theorem xori (rs : Reg) (rt : Reg) (imm : BitVec 16) : Statement (.xori rs rt imm) := iType_op ..
theorem daddi (rs : Reg) (rt : Reg) (imm : BitVec 16) : Statement (.daddi rs rt imm) := iType_op ..
theorem daddiu (rs : Reg) (rt : Reg) (imm : BitVec 16) : Statement (.daddiu rs rt imm) := iType_op ..
theorem lui (rt : Reg) (imm : BitVec 16) : Statement (.lui rt imm) := iType_op ..
theorem add : Statement (.add rs rt rd) := iType_op ..
theorem addu (rs : Reg) (rt : Reg) (rd : Reg) : Statement (.addu rs rt rd) := iType_op ..
theorem sub (rs : Reg) (rt : Reg) (rd : Reg) : Statement (.sub rs rt rd) := iType_op ..
theorem subu (rs : Reg) (rt : Reg) (rd : Reg) : Statement (.subu rs rt rd) := iType_op ..
theorem slt : Statement (.slt rs rt rd) := iType_op ..
theorem sltu (rs : Reg) (rt : Reg) (rd : Reg) : Statement (.sltu rs rt rd) := iType_op ..
theorem and : Statement (.and rs rt rd) := iType_op ..
theorem or : Statement (.or rs rt rd) := iType_op ..
theorem xor : Statement (.xor rs rt rd) := iType_op ..
theorem nor (rs : Reg) (rt : Reg) (rd : Reg) : Statement (.nor rs rt rd) := iType_op ..
theorem dadd : Statement (.dadd rs rt rd) := iType_op ..
theorem daddu (rs : Reg) (rt : Reg) (rd : Reg) : Statement (.daddu rs rt rd) := iType_op ..
theorem dsub (rs : Reg) (rt : Reg) (rd : Reg) : Statement (.dsub rs rt rd) := iType_op ..
theorem dsubu (rs : Reg) (rt : Reg) (rd : Reg) : Statement (.dsubu rs rt rd) := iType_op ..
theorem sll (rt : Reg) (rd : Reg) (sa : BitVec 5) : Statement (.sll rt rd sa) := iType_op ..
theorem srl (rt : Reg) (rd : Reg) (sa : BitVec 5) : Statement (.srl rt rd sa) := iType_op ..
theorem sra (rt : Reg) (rd : Reg) (sa : BitVec 5) : Statement (.sra rt rd sa) := iType_op ..
theorem dsll (rt : Reg) (rd : Reg) (sa : BitVec 5) : Statement (.dsll rt rd sa) := iType_op ..
theorem dsrl (rt : Reg) (rd : Reg) (sa : BitVec 5) : Statement (.dsrl rt rd sa) := iType_op ..
theorem dsra (rt : Reg) (rd : Reg) (sa : BitVec 5) : Statement (.dsra rt rd sa) := iType_op ..
theorem dsll32 (rt : Reg) (rd : Reg) (sa : BitVec 5) : Statement (.dsll32 rt rd sa) := iType_op ..
theorem dsrl32 (rt : Reg) (rd : Reg) (sa : BitVec 5) : Statement (.dsrl32 rt rd sa) := iType_op ..
theorem dsra32 (rt : Reg) (rd : Reg) (sa : BitVec 5) : Statement (.dsra32 rt rd sa) := iType_op ..
theorem sllv (rs : Reg) (rt : Reg) (rd : Reg) : Statement (.sllv rs rt rd) := iType_op ..
theorem srlv (rs : Reg) (rt : Reg) (rd : Reg) : Statement (.srlv rs rt rd) := iType_op ..
theorem srav (rs : Reg) (rt : Reg) (rd : Reg) : Statement (.srav rs rt rd) := iType_op ..
theorem dsllv (rs : Reg) (rt : Reg) (rd : Reg) : Statement (.dsllv rs rt rd) := iType_op ..
theorem dsrlv (rs : Reg) (rt : Reg) (rd : Reg) : Statement (.dsrlv rs rt rd) := iType_op ..
theorem dsrav (rs : Reg) (rt : Reg) (rd : Reg) : Statement (.dsrav rs rt rd) := iType_op ..
theorem mult (rs : Reg) (rt : Reg) : Statement (.mult rs rt) := iType_op ..
theorem multu (rs : Reg) (rt : Reg) : Statement (.multu rs rt) := iType_op ..
theorem div (rs : Reg) (rt : Reg) : Statement (.div rs rt) := iType_op ..
theorem divu (rs : Reg) (rt : Reg) : Statement (.divu rs rt) := iType_op ..
theorem dmult (rs : Reg) (rt : Reg) : Statement (.dmult rs rt) := iType_op ..
theorem dmultu (rs : Reg) (rt : Reg) : Statement (.dmultu rs rt) := iType_op ..
theorem ddiv (rs : Reg) (rt : Reg) : Statement (.ddiv rs rt) := iType_op ..
theorem ddivu (rs : Reg) (rt : Reg) : Statement (.ddivu rs rt) := iType_op ..
theorem mfhi (rd : Reg) : Statement (.mfhi rd) := iType_op ..
theorem mthi (rs : Reg) : Statement (.mthi rs) := iType_op ..
theorem mflo (rd : Reg) : Statement (.mflo rd) := iType_op ..
theorem mtlo (rs : Reg) : Statement (.mtlo rs) := iType_op ..
theorem madd16 (rs : Reg) (rt : Reg) : Statement (.madd16 rs rt) := iType_op ..
theorem dmadd16 (rs : Reg) (rt : Reg) : Statement (.dmadd16 rs rt) := iType_op ..
theorem j (target : BitVec 26) : Statement (.j target) := iType_op ..
theorem jal (target : BitVec 26) : Statement (.jal target) := iType_op ..
theorem jr (rs : Reg) : Statement (.jr rs) := iType_op ..
theorem jalr (rs : Reg) (rd : Reg) : Statement (.jalr rs rd) := iType_op ..
theorem beq (rs : Reg) (rt : Reg) (offset : BitVec 16) : Statement (.beq rs rt offset) := iType_op ..
theorem bne (rs : Reg) (rt : Reg) (offset : BitVec 16) : Statement (.bne rs rt offset) := iType_op ..
theorem blez (rs : Reg) (offset : BitVec 16) : Statement (.blez rs offset) := iType_op ..
theorem bgtz (rs : Reg) (offset : BitVec 16) : Statement (.bgtz rs offset) := iType_op ..
theorem bltz (rs : Reg) (offset : BitVec 16) : Statement (.bltz rs offset) := iType_op ..
theorem bgez (rs : Reg) (offset : BitVec 16) : Statement (.bgez rs offset) := iType_op ..
theorem bltzal (rs : Reg) (offset : BitVec 16) : Statement (.bltzal rs offset) := iType_op ..
theorem bgezal (rs : Reg) (offset : BitVec 16) : Statement (.bgezal rs offset) := iType_op ..
theorem bltzl (rs : Reg) (offset : BitVec 16) : Statement (.bltzl rs offset) := iType_op ..
theorem bgezl (rs : Reg) (offset : BitVec 16) : Statement (.bgezl rs offset) := iType_op ..
theorem bltzall (rs : Reg) (offset : BitVec 16) : Statement (.bltzall rs offset) := iType_op ..
theorem bgezall (rs : Reg) (offset : BitVec 16) : Statement (.bgezall rs offset) := iType_op ..
theorem beql (rs : Reg) (rt : Reg) (offset : BitVec 16) : Statement (.beql rs rt offset) := iType_op ..
theorem bnel (rs : Reg) (rt : Reg) (offset : BitVec 16) : Statement (.bnel rs rt offset) := iType_op ..
theorem blezl (rs : Reg) (offset : BitVec 16) : Statement (.blezl rs offset) := iType_op ..
theorem bgtzl (rs : Reg) (offset : BitVec 16) : Statement (.bgtzl rs offset) := iType_op ..
theorem syscall (code : BitVec 20) : Statement (.syscall code) := iType_op ..
theorem brk (code : BitVec 20) : Statement (.brk code) := iType_op ..
theorem sync : Statement (.sync) := iType_op ..
theorem tge (rs : Reg) (rt : Reg) (code : BitVec 10) : Statement (.tge rs rt code) := iType_op ..
theorem tgeu (rs : Reg) (rt : Reg) (code : BitVec 10) : Statement (.tgeu rs rt code) := iType_op ..
theorem tlt (rs : Reg) (rt : Reg) (code : BitVec 10) : Statement (.tlt rs rt code) := iType_op ..
theorem tltu (rs : Reg) (rt : Reg) (code : BitVec 10) : Statement (.tltu rs rt code) := iType_op ..
theorem teq (rs : Reg) (rt : Reg) (code : BitVec 10) : Statement (.teq rs rt code) := iType_op ..
theorem tne (rs : Reg) (rt : Reg) (code : BitVec 10) : Statement (.tne rs rt code) := iType_op ..
theorem tgei (rs : Reg) (imm : BitVec 16) : Statement (.tgei rs imm) := iType_op ..
theorem tgeiu (rs : Reg) (imm : BitVec 16) : Statement (.tgeiu rs imm) := iType_op ..
theorem tlti (rs : Reg) (imm : BitVec 16) : Statement (.tlti rs imm) := iType_op ..
theorem tltiu (rs : Reg) (imm : BitVec 16) : Statement (.tltiu rs imm) := iType_op ..
theorem teqi (rs : Reg) (imm : BitVec 16) : Statement (.teqi rs imm) := iType_op ..
theorem tnei (rs : Reg) (imm : BitVec 16) : Statement (.tnei rs imm) := iType_op ..
theorem ll (base : Reg) (rt : Reg) (offset : BitVec 16) : Statement (.ll base rt offset) := iType_op ..
theorem sc (base : Reg) (rt : Reg) (offset : BitVec 16) : Statement (.sc base rt offset) := iType_op ..
theorem lld (base : Reg) (rt : Reg) (offset : BitVec 16) : Statement (.lld base rt offset) := iType_op ..
theorem scd (base : Reg) (rt : Reg) (offset : BitVec 16) : Statement (.scd base rt offset) := iType_op ..
theorem cop1 (cofun : BitVec 26) : Statement (.cop1 cofun) := iType_op ..
theorem lwc1 (base : Reg) (ft : Reg) (offset : BitVec 16) : Statement (.lwc1 base ft offset) := iType_op ..
theorem swc1 (base : Reg) (ft : Reg) (offset : BitVec 16) : Statement (.swc1 base ft offset) := iType_op ..
theorem ldc1 (base : Reg) (ft : Reg) (offset : BitVec 16) : Statement (.ldc1 base ft offset) := iType_op ..
theorem sdc1 (base : Reg) (ft : Reg) (offset : BitVec 16) : Statement (.sdc1 base ft offset) := iType_op ..
theorem cop2 (cofun : BitVec 26) : Statement (.cop2 cofun) := iType_op ..
theorem cop3 (cofun : BitVec 26) : Statement (.cop3 cofun) := iType_op ..
theorem lwc2 (base : Reg) (rt : Reg) (offset : BitVec 16) : Statement (.lwc2 base rt offset) := iType_op ..
theorem swc2 (base : Reg) (rt : Reg) (offset : BitVec 16) : Statement (.swc2 base rt offset) := iType_op ..
theorem ldc2 (base : Reg) (rt : Reg) (offset : BitVec 16) : Statement (.ldc2 base rt offset) := iType_op ..
theorem sdc2 (base : Reg) (rt : Reg) (offset : BitVec 16) : Statement (.sdc2 base rt offset) := iType_op ..
theorem mfc0 (rt : Reg) (rd : Reg) : Statement (.mfc0 rt rd) := iType_op ..
theorem mtc0 (rt : Reg) (rd : Reg) : Statement (.mtc0 rt rd) := iType_op ..
theorem dmfc0 (rt : Reg) (rd : Reg) : Statement (.dmfc0 rt rd) := iType_op ..
theorem dmtc0 (rt : Reg) (rd : Reg) : Statement (.dmtc0 rt rd) := iType_op ..
theorem tlbr : Statement (.tlbr) := iType_op ..
theorem tlbwi : Statement (.tlbwi) := iType_op ..
theorem tlbwr : Statement (.tlbwr) := iType_op ..
theorem tlbp : Statement (.tlbp) := iType_op ..
theorem eret : Statement (.eret) := iType_op ..
theorem cacheIndexInvalidateI (base : Reg) (offset : BitVec 16) : Statement (.cacheIndexInvalidateI base offset) := iType_op ..
theorem cacheIndexWriteBackInvalidateD (base : Reg) (offset : BitVec 16) : Statement (.cacheIndexWriteBackInvalidateD base offset) := iType_op ..
theorem cacheIndexLoadTagI (base : Reg) (offset : BitVec 16) : Statement (.cacheIndexLoadTagI base offset) := iType_op ..
theorem cacheIndexLoadTagD (base : Reg) (offset : BitVec 16) : Statement (.cacheIndexLoadTagD base offset) := iType_op ..
theorem cacheIndexStoreTagI (base : Reg) (offset : BitVec 16) : Statement (.cacheIndexStoreTagI base offset) := iType_op ..
theorem cacheIndexStoreTagD (base : Reg) (offset : BitVec 16) : Statement (.cacheIndexStoreTagD base offset) := iType_op ..
theorem cacheCreateDirtyD (base : Reg) (offset : BitVec 16) : Statement (.cacheCreateDirtyD base offset) := iType_op ..
theorem cacheHitInvalidateI (base : Reg) (offset : BitVec 16) : Statement (.cacheHitInvalidateI base offset) := iType_op ..
theorem cacheHitInvalidateD (base : Reg) (offset : BitVec 16) : Statement (.cacheHitInvalidateD base offset) := iType_op ..
theorem cacheFillI (base : Reg) (offset : BitVec 16) : Statement (.cacheFillI base offset) := iType_op ..
theorem cacheHitWriteBackInvalidateD (base : Reg) (offset : BitVec 16) : Statement (.cacheHitWriteBackInvalidateD base offset) := iType_op ..
theorem cacheHitWriteBackI : Statement (.cacheHitWriteBackI base offset) := iType_op ..
theorem cacheHitWriteBackD (base : Reg) (offset : BitVec 16) : Statement (.cacheHitWriteBackD base offset) := iType_op ..
theorem standby : Statement (.standby) := iType_op ..
theorem suspend : Statement (.suspend) := iType_op ..
theorem hibernate : Statement (.hibernate) := iType_op ..

end Sys2Proof.Laws.MajorOpcode
end

