-- ==== Sys2Proof/Tests/Slice0.lean ====
section
/-! SUPPORT. Tests: ill-formed instructions, one word for every instruction, one step for every instruction, and for every
statement with hypotheses a state and operands that meet them. Expected values are those of the spec's examples (95_test_vectors
and the Example lines of the rules). -/

namespace Sys2Proof.Machine

theorem test_ill_formed_reserved_cp0 :
    (Instr.mfc0 8 7).WellFormed = false ∧ (Instr.mtc0 8 31).WellFormed = false ∧ (Instr.mfc0 8 21).WellFormed = false
      ∧ (Instr.mtc0 8 25).WellFormed = false ∧ (Instr.mfc0 8 26).WellFormed = true := by decide

theorem test_ill_formed_cp0_width :
    (Instr.dmfc0 8 12).WellFormed = false ∧ (Instr.dmtc0 8 16).WellFormed = false ∧ (Instr.dmtc0 8 10).WellFormed = true := by
  decide

theorem test_ill_formed_jalr : (Instr.jalr 5 5).WellFormed = false ∧ (Instr.jalr 5 31).WellFormed = true := by decide

theorem test_ill_formed_branch_link :
    (Instr.bltzal 31 1).WellFormed = false ∧ (Instr.bgezal 31 1).WellFormed = false
      ∧ (Instr.bltzall 31 1).WellFormed = false ∧ (Instr.bgezall 31 1).WellFormed = false
      ∧ (Instr.bgezal 0 1).WellFormed = true := by decide

theorem test_decode_loads :
    decode 0x80880004 = .ok (.lb 4 8 4)
      ∧ decode 0x90880007 = .ok (.lbu 4 8 7)
      ∧ decode 0x84880006 = .ok (.lh 4 8 6)
      ∧ decode 0x94880006 = .ok (.lhu 4 8 6)
      ∧ decode 0x8C880004 = .ok (.lw 4 8 4)
      ∧ decode 0x9C880004 = .ok (.lwu 4 8 4)
      ∧ decode 0xDC880000 = .ok (.ld 4 8 0)
      ∧ decode 0x88880001 = .ok (.lwl 4 8 1)
      ∧ decode 0x98880001 = .ok (.lwr 4 8 1)
      ∧ decode 0x68880003 = .ok (.ldl 4 8 3)
      ∧ decode 0x6C880003 = .ok (.ldr 4 8 3) := by
  decide

theorem test_decode_stores :
    decode 0xA0880002 = .ok (.sb 4 8 2)
      ∧ decode 0xA4880002 = .ok (.sh 4 8 2)
      ∧ decode 0xAC880004 = .ok (.sw 4 8 4)
      ∧ decode 0xFC880000 = .ok (.sd 4 8 0)
      ∧ decode 0xA8880001 = .ok (.swl 4 8 1)
      ∧ decode 0xB8880001 = .ok (.swr 4 8 1)
      ∧ decode 0xB0880003 = .ok (.sdl 4 8 3)
      ∧ decode 0xB4880003 = .ok (.sdr 4 8 3) := by
  decide

theorem test_decode_immediates :
    decode 0x20A8FFFE = .ok (.addi 5 8 0xfffe)
      ∧ decode 0x24880001 = .ok (.addiu 4 8 1)
      ∧ decode 0x28C80000 = .ok (.slti 6 8 0)
      ∧ decode 0x2CA8FFFF = .ok (.sltiu 5 8 0xffff)
      ∧ decode 0x30E8FF0F = .ok (.andi 7 8 0xff0f)
      ∧ decode 0x34C88001 = .ok (.ori 6 8 0x8001)
      ∧ decode 0x3928FFFF = .ok (.xori 9 8 0xffff)
      ∧ decode 0x60E8FFFF = .ok (.daddi 7 8 0xffff)
      ∧ decode 0x65280001 = .ok (.daddiu 9 8 1)
      ∧ decode 0x3C088000 = .ok (.lui 8 0x8000) := by
  decide

theorem test_decode_registers :
    decode 0x00A64020 = .ok (.add 5 6 8)
      ∧ decode 0x00854021 = .ok (.addu 4 5 8)
      ∧ decode 0x00A44022 = .ok (.sub 5 4 8)
      ∧ decode 0x00C54023 = .ok (.subu 6 5 8)
      ∧ decode 0x00C5402A = .ok (.slt 6 5 8)
      ∧ decode 0x00A6402B = .ok (.sltu 5 6 8)
      ∧ decode 0x00E64024 = .ok (.and 7 6 8)
      ∧ decode 0x00E04025 = .ok (.or 7 0 8)
      ∧ decode 0x00E94026 = .ok (.xor 7 9 8)
      ∧ decode 0x00E04027 = .ok (.nor 7 0 8)
      ∧ decode 0x00E5402C = .ok (.dadd 7 5 8)
      ∧ decode 0x0125402D = .ok (.daddu 9 5 8)
      ∧ decode 0x0007402E = .ok (.dsub 0 7 8)
      ∧ decode 0x0005402F = .ok (.dsubu 0 5 8) := by
  decide

theorem test_decode_shifts :
    decode 0x00044100 = .ok (.sll 4 8 4)
      ∧ decode 0x00064102 = .ok (.srl 6 8 4)
      ∧ decode 0x00064103 = .ok (.sra 6 8 4)
      ∧ decode 0x00074238 = .ok (.dsll 7 8 8)
      ∧ decode 0x0007423A = .ok (.dsrl 7 8 8)
      ∧ decode 0x0006423B = .ok (.dsra 6 8 8)
      ∧ decode 0x0004403C = .ok (.dsll32 4 8 0)
      ∧ decode 0x0007413E = .ok (.dsrl32 7 8 4)
      ∧ decode 0x0006403F = .ok (.dsra32 6 8 0)
      ∧ decode 0x01454004 = .ok (.sllv 10 5 8)
      ∧ decode 0x01464006 = .ok (.srlv 10 6 8)
      ∧ decode 0x01464007 = .ok (.srav 10 6 8)
      ∧ decode 0x01454014 = .ok (.dsllv 10 5 8)
      ∧ decode 0x01474016 = .ok (.dsrlv 10 7 8)
      ∧ decode 0x01464017 = .ok (.dsrav 10 6 8) := by
  decide

theorem test_decode_multiply :
    decode 0x00860018 = .ok (.mult 4 6)
      ∧ decode 0x00220019 = .ok (.multu 1 2)
      ∧ decode 0x01CF001A = .ok (.div 14 15)
      ∧ decode 0x01CF001B = .ok (.divu 14 15)
      ∧ decode 0x00ED001C = .ok (.dmult 7 13)
      ∧ decode 0x0022001D = .ok (.dmultu 1 2)
      ∧ decode 0x01CD001E = .ok (.ddiv 14 13)
      ∧ decode 0x01D0001F = .ok (.ddivu 14 16)
      ∧ decode 0x00004010 = .ok (.mfhi 8)
      ∧ decode 0x00A00011 = .ok (.mthi 5)
      ∧ decode 0x00004012 = .ok (.mflo 8)
      ∧ decode 0x00200013 = .ok (.mtlo 1)
      ∧ decode 0x02320028 = .ok (.madd16 17 18)
      ∧ decode 0x02320029 = .ok (.dmadd16 17 18) := by
  decide

theorem test_decode_jumps :
    decode 0x08000800 = .ok (.j 0x800)
      ∧ decode 0x0C000800 = .ok (.jal 0x800)
      ∧ decode 0x03E00008 = .ok (.jr 31)
      ∧ decode 0x0320F809 = .ok (.jalr 25 31)
      ∧ decode 0x10850003 = .ok (.beq 4 5 3)
      ∧ decode 0x1480FFFC = .ok (.bne 4 0 0xfffc)
      ∧ decode 0x18800010 = .ok (.blez 4 0x10)
      ∧ decode 0x1C800010 = .ok (.bgtz 4 0x10)
      ∧ decode 0x04C00002 = .ok (.bltz 6 2)
      ∧ decode 0x04C10002 = .ok (.bgez 6 2)
      ∧ decode 0x04D00008 = .ok (.bltzal 6 8)
      ∧ decode 0x04110001 = .ok (.bgezal 0 1)
      ∧ decode 0x04A20002 = .ok (.bltzl 5 2)
      ∧ decode 0x04A30002 = .ok (.bgezl 5 2)
      ∧ decode 0x04B20008 = .ok (.bltzall 5 8)
      ∧ decode 0x04B30008 = .ok (.bgezall 5 8)
      ∧ decode 0x50850003 = .ok (.beql 4 5 3)
      ∧ decode 0x5480FFFC = .ok (.bnel 4 0 0xfffc)
      ∧ decode 0x58800010 = .ok (.blezl 4 0x10)
      ∧ decode 0x5C800010 = .ok (.bgtzl 4 0x10) := by
  decide

theorem test_decode_traps :
    decode 0x0048D14C = .ok (.syscall 0x12345)
      ∧ decode 0x000001CD = .ok (.brk 7)
      ∧ decode 0x0000000F = .ok .sync
      ∧ decode 0x00850030 = .ok (.tge 4 5 0)
      ∧ decode 0x00890031 = .ok (.tgeu 4 9 0)
      ∧ decode 0x01200032 = .ok (.tlt 9 0 0)
      ∧ decode 0x01200033 = .ok (.tltu 9 0 0)
      ∧ decode 0x0022FFF4 = .ok (.teq 1 2 0x3ff)
      ∧ decode 0x00850036 = .ok (.tne 4 5 0)
      ∧ decode 0x04880005 = .ok (.tgei 4 5)
      ∧ decode 0x0489FFFF = .ok (.tgeiu 4 0xffff)
      ∧ decode 0x052A0000 = .ok (.tlti 9 0)
      ∧ decode 0x048BFFFF = .ok (.tltiu 4 0xffff)
      ∧ decode 0x052CFFFF = .ok (.teqi 9 0xffff)
      ∧ decode 0x048E0005 = .ok (.tnei 4 5) := by
  decide

theorem test_decode_deleted :
    decode 0xC0880000 = .ok (.ll 4 8 0)
      ∧ decode 0xE0880000 = .ok (.sc 4 8 0)
      ∧ decode 0xD0880000 = .ok (.lld 4 8 0)
      ∧ decode 0xF0880000 = .ok (.scd 4 8 0)
      ∧ decode 0x46041000 = .ok (.cop1 0x2041000)
      ∧ decode 0xC4880000 = .ok (.lwc1 4 8 0)
      ∧ decode 0xE4880000 = .ok (.swc1 4 8 0)
      ∧ decode 0xD4880000 = .ok (.ldc1 4 8 0)
      ∧ decode 0xF4880000 = .ok (.sdc1 4 8 0)
      ∧ decode 0x4A104020 = .ok (.cop2 0x2104020)
      ∧ decode 0x4E345678 = .ok (.cop3 0x2345678)
      ∧ decode 0xC8880000 = .ok (.lwc2 4 8 0)
      ∧ decode 0xE8880000 = .ok (.swc2 4 8 0)
      ∧ decode 0xD8880000 = .ok (.ldc2 4 8 0)
      ∧ decode 0xF8880000 = .ok (.sdc2 4 8 0) := by
  decide

theorem test_decode_cp0 :
    decode 0x40087800 = .ok (.mfc0 8 15)
      ∧ decode 0x40886000 = .ok (.mtc0 8 12)
      ∧ decode 0x403A7000 = .ok (.dmfc0 26 14)
      ∧ decode 0x40A85000 = .ok (.dmtc0 8 10)
      ∧ decode 0x42000001 = .ok .tlbr
      ∧ decode 0x42000002 = .ok .tlbwi
      ∧ decode 0x42000006 = .ok .tlbwr
      ∧ decode 0x42000008 = .ok .tlbp
      ∧ decode 0x42000018 = .ok .eret := by
  decide

theorem test_decode_caches :
    decode 0xBC950000 = .ok (.cacheHitWriteBackInvalidateD 4 0)
      ∧ decode 0xBC800000 = .ok (.cacheIndexInvalidateI 4 0)
      ∧ decode 0xBC810000 = .ok (.cacheIndexWriteBackInvalidateD 4 0)
      ∧ decode 0xBC850000 = .ok (.cacheIndexLoadTagD 4 0)
      ∧ decode 0xBC890000 = .ok (.cacheIndexStoreTagD 4 0)
      ∧ decode 0xBC8D0000 = .ok (.cacheCreateDirtyD 4 0)
      ∧ decode 0xBC900000 = .ok (.cacheHitInvalidateI 4 0)
      ∧ decode 0xBC910000 = .ok (.cacheHitInvalidateD 4 0)
      ∧ decode 0xBC940000 = .ok (.cacheFillI 4 0)
      ∧ decode 0xBC980000 = .ok (.cacheHitWriteBackI 4 0)
      ∧ decode 0xBC990000 = .ok (.cacheHitWriteBackD 4 0)
      ∧ decode 0xBC880000 = .ok (.cacheIndexStoreTagI 4 0)
      ∧ decode 0xBC840000 = .ok (.cacheIndexLoadTagI 4 0) := by
  decide

theorem test_decode_power :
    decode 0x42000021 = .ok .standby
      ∧ decode 0x42000022 = .ok .suspend
      ∧ decode 0x42000023 = .ok .hibernate := by
  decide

/-- Kernel mode at 0xFFFFFFFF80001000 with Status = 0, as spec 95 sets it; uninitialised registers and memory read 0. -/
def small : State :=
  { State.reset.mapStatus (fun st => { st with erl := false, bev := false }) with
    pc := 0xFFFFFFFF80001000, npc := 0xFFFFFFFF80001004 }

/-- A state with some general registers set. -/
def State.withRegs (rs : List (Reg × DWord)) (s : State) : State := rs.foldl (fun s r => s.setReg r.1 r.2) s

/-- The sixteen bytes of spec 95 section 2.1 at physical 0x3000, in a byte order, with their address in r4. -/
def State.withBytes (bigEndian : Bool) (s : State) : State :=
  ((s.mapCp0 fun c => { c with config := { c.config with be := bigEndian } }).mapMem fun m =>
    m.writeAll [(0x3000, 0x11), (0x3001, 0x22), (0x3002, 0x33), (0x3003, 0x44), (0x3004, 0x55), (0x3005, 0x66),
      (0x3006, 0x77), (0x3007, 0x88), (0x3008, 0x99), (0x3009, 0xAA), (0x300A, 0xBB), (0x300B, 0xCC),
      (0x300C, 0xDD), (0x300D, 0xEE), (0x300E, 0xFF)]).setReg 4 0xFFFFFFFF80003000

/-- Some bytes of memory from a physical address on. -/
def State.bytesAt (a : PAddr) (n : Nat) (s : State) : List Byte := (List.range n).map fun k => s.byteAt (a + BitVec.ofNat 32 k)

/-- An outcome is a next state of which something holds. -/
def nextIs (o : Host.Outcome State Fault Refusal) (p : State → Bool) : Bool :=
  match o with
  | .next t => p t
  | _ => false

/-- An outcome is the completion of an instruction that is no jump, with this register value. -/
def gives (i : Instr) (s : State) (r : Reg) (v : DWord) : Bool :=
  nextIs (exec i s) fun t => t.reg r == v && t.pc == s.npc && !t.trapped

/-- An outcome is a completion with these values of HI and LO. -/
def givesHiLo (i : Instr) (s : State) (hi lo : DWord) : Bool :=
  nextIs (exec i s) fun t => t.hi == hi && t.lo == lo && t.pc == s.npc && !t.trapped

/-- An outcome is the completion of a jump with this target and link value in r31. -/
def jumps (i : Instr) (s : State) (target link : DWord) : Bool :=
  nextIs (exec i s) fun t => t.pc == s.npc && t.npc == target && t.ds && t.reg 31 == link

/-- An outcome is an exception with this code. -/
def traps (i : Instr) (s : State) (code : BitVec 5) : Bool :=
  nextIs (exec i s) fun t =>
    t.cp0.cause.excCode == code && t.cp0.epc == s.pc && t.pc == 0xFFFFFFFF80000180 && t.cp0.status.exl

/-- An outcome is a completion that leaves these bytes in memory. -/
def stores (i : Instr) (s : State) (bytes : List Byte) : Bool :=
  nextIs (exec i s) fun t => t.bytesAt 0x3000 bytes.length == bytes && t.pc == s.npc

theorem test_lb : gives (.lb 4 8 8) (small.withBytes false) 8 0xFFFFFFFFFFFFFF99 = true := by decide

theorem test_lbu : gives (.lbu 4 8 8) (small.withBytes false) 8 0x0000000000000099 = true := by decide

theorem test_lh : gives (.lh 4 8 8) (small.withBytes false) 8 0xFFFFFFFFFFFFAA99 = true := by decide

theorem test_lhu : gives (.lhu 4 8 8) (small.withBytes false) 8 0x000000000000AA99 = true := by decide

theorem test_lw : gives (.lw 4 8 8) (small.withBytes false) 8 0xFFFFFFFFCCBBAA99 = true := by decide

theorem test_lwu : gives (.lwu 4 8 8) (small.withBytes false) 8 0x00000000CCBBAA99 = true := by decide

theorem test_ld : gives (.ld 4 8 0) (small.withBytes false) 8 0x8877665544332211 = true := by decide

theorem test_sb : stores (.sb 4 8 5) ((small.withBytes false).setReg 8 0xA1B2C3D4E5F60718) [0x11, 0x22, 0x33, 0x44, 0x55, 0x18, 0x77, 0x88, 0x99, 0xAA, 0xBB, 0xCC, 0xDD, 0xEE, 0xFF, 0x00] = true := by decide

theorem test_sh : stores (.sh 4 8 2) ((small.withBytes false).setReg 8 0xA1B2C3D4E5F60718) [0x11, 0x22, 0x18, 0x07, 0x55, 0x66, 0x77, 0x88, 0x99, 0xAA, 0xBB, 0xCC, 0xDD, 0xEE, 0xFF, 0x00] = true := by decide

theorem test_sw : stores (.sw 4 8 4) ((small.withBytes false).setReg 8 0xA1B2C3D4E5F60718) [0x11, 0x22, 0x33, 0x44, 0x18, 0x07, 0xF6, 0xE5, 0x99, 0xAA, 0xBB, 0xCC, 0xDD, 0xEE, 0xFF, 0x00] = true := by decide

theorem test_sd : stores (.sd 4 8 8) ((small.withBytes false).setReg 8 0xA1B2C3D4E5F60718) [0x11, 0x22, 0x33, 0x44, 0x55, 0x66, 0x77, 0x88, 0x18, 0x07, 0xF6, 0xE5, 0xD4, 0xC3, 0xB2, 0xA1] = true := by decide

theorem test_lwl_big : gives (.lwl 4 8 1) ((small.withBytes true).setReg 8 0xFFFFFFFFA1B2C3D4) 8 0x00000000223344D4 = true := by decide

theorem test_swl_big : stores (.swl 4 8 1) ((small.withBytes true).setReg 8 0xFFFFFFFFA1B2C3D4) [0x11, 0xA1, 0xB2, 0xC3] = true := by decide

theorem test_swr_big : stores (.swr 4 8 1) ((small.withBytes true).setReg 8 0xFFFFFFFFA1B2C3D4) [0xC3, 0xD4, 0x33, 0x44] = true := by decide

theorem test_lwr_big : gives (.lwr 4 8 2) ((small.withBytes true).setReg 8 0xFFFFFFFFA1B2C3D4) 8 0xFFFFFFFFA1112233 = true := by decide

theorem test_sdl_big : stores (.sdl 4 8 2) ((small.withBytes true).setReg 8 0xA1B2C3D4E5F60718) [0x11, 0x22, 0xA1, 0xB2, 0xC3, 0xD4, 0xE5, 0xF6] = true := by decide

theorem test_ldl_big : gives (.ldl 4 8 3) ((small.withBytes true).setReg 8 0xA1B2C3D4E5F60718) 8 0x4455667788F60718 = true := by decide

theorem test_sdr_big : stores (.sdr 4 8 4) ((small.withBytes true).setReg 8 0xA1B2C3D4E5F60718) [0xD4, 0xE5, 0xF6, 0x07, 0x18, 0x66, 0x77, 0x88] = true := by decide

theorem test_ldr_big : gives (.ldr 4 8 5) ((small.withBytes true).setReg 8 0xA1B2C3D4E5F60718) 8 0xA1B2112233445566 = true := by decide

theorem test_lwl : gives (.lwl 4 8 1) ((small.withBytes false).setReg 8 0xFFFFFFFFA1B2C3D4) 8 0x000000002211C3D4 = true := by decide

theorem test_swl : stores (.swl 4 8 1) ((small.withBytes false).setReg 8 0xFFFFFFFFA1B2C3D4) [0xB2, 0xA1, 0x33, 0x44] = true := by decide

theorem test_swr : stores (.swr 4 8 1) ((small.withBytes false).setReg 8 0xFFFFFFFFA1B2C3D4) [0x11, 0xD4, 0xC3, 0xB2] = true := by decide

theorem test_lwr : gives (.lwr 4 8 2) ((small.withBytes false).setReg 8 0xFFFFFFFFA1B2C3D4) 8 0xFFFFFFFFA1B24433 = true := by decide

theorem test_sdl : stores (.sdl 4 8 2) ((small.withBytes false).setReg 8 0xA1B2C3D4E5F60718) [0xC3, 0xB2, 0xA1, 0x44, 0x55, 0x66, 0x77, 0x88] = true := by decide

theorem test_ldl : gives (.ldl 4 8 3) ((small.withBytes false).setReg 8 0xA1B2C3D4E5F60718) 8 0x44332211E5F60718 = true := by decide

theorem test_sdr : stores (.sdr 4 8 4) ((small.withBytes false).setReg 8 0xA1B2C3D4E5F60718) [0x11, 0x22, 0x33, 0x44, 0x18, 0x07, 0xF6, 0xE5] = true := by decide

theorem test_ldr : gives (.ldr 4 8 5) ((small.withBytes false).setReg 8 0xA1B2C3D4E5F60718) 8 0xA1B2C3D4E5887766 = true := by decide

theorem test_add : gives (.add 1 2 3) (small.withRegs [(1, 0xFFFFFFFFFFFFFFFF), (2, 0x0000000000000001)]) 3 0x0000000000000000 = true := by decide

theorem test_add_overflow : traps (.add 1 2 3) (small.withRegs [(1, 0x000000007FFFFFFF), (2, 0x0000000000000001), (3, 0x0000000000000055)]) 12 = true := by decide

theorem test_addu : gives (.addu 1 2 3) (small.withRegs [(1, 0x000000007FFFFFFF), (2, 0x0000000000000001)]) 3 0xFFFFFFFF80000000 = true := by decide

theorem test_sub_overflow : traps (.sub 1 2 3) (small.withRegs [(1, 0xFFFFFFFF80000000), (2, 0x0000000000000001), (3, 0x0000000000000055)]) 12 = true := by decide

theorem test_subu : gives (.subu 1 2 3) (small.withRegs [(1, 0x0000000000000000), (2, 0x0000000000000001)]) 3 0xFFFFFFFFFFFFFFFF = true := by decide

theorem test_addi_overflow : traps (.addi 1 2 0xffff) (small.withRegs [(1, 0xFFFFFFFF80000000), (2, 0x0000000000000055)]) 12 = true := by decide

theorem test_addiu : gives (.addiu 1 2 0xffff) (small.withRegs [(1, 0xFFFFFFFF80000000)]) 2 0x000000007FFFFFFF = true := by decide

theorem test_dadd_overflow : traps (.dadd 1 2 3) (small.withRegs [(1, 0x7FFFFFFFFFFFFFFF), (2, 0x0000000000000001), (3, 0x0000000000000055)]) 12 = true := by decide

theorem test_daddu : gives (.daddu 1 2 3) (small.withRegs [(1, 0x7FFFFFFFFFFFFFFF), (2, 0x0000000000000001)]) 3 0x8000000000000000 = true := by decide

theorem test_daddiu : gives (.daddiu 1 2 0x8000) (small.withRegs [(1, 0x0000000000008000)]) 2 0x0000000000000000 = true := by decide

theorem test_daddi_overflow : traps (.daddi 1 2 1) (small.withRegs [(1, 0x7FFFFFFFFFFFFFFF), (2, 0x0000000000000055)]) 12 = true := by decide

theorem test_dsub_overflow : traps (.dsub 1 2 3) (small.withRegs [(1, 0x8000000000000000), (2, 0x0000000000000001), (3, 0x0000000000000055)]) 12 = true := by decide

theorem test_dsubu : gives (.dsubu 1 2 3) (small.withRegs [(1, 0x0000000000000000), (2, 0x0000000000000001)]) 3 0xFFFFFFFFFFFFFFFF = true := by decide

theorem test_slt : gives (.slt 1 2 3) (small.withRegs [(1, 0xFFFFFFFFFFFFFFFF), (2, 0x0000000000000001)]) 3 0x0000000000000001 = true := by decide

theorem test_sltu : gives (.sltu 1 2 3) (small.withRegs [(1, 0xFFFFFFFFFFFFFFFF), (2, 0x0000000000000001)]) 3 0x0000000000000000 = true := by decide

theorem test_slti : gives (.slti 1 2 0xffff) (small.withRegs [(1, 0xFFFFFFFFFFFFFFFE)]) 2 0x0000000000000001 = true := by decide

theorem test_sltiu : gives (.sltiu 1 2 0xffff) (small.withRegs [(1, 0x0000000000000005)]) 2 0x0000000000000001 = true := by decide

theorem test_andi : gives (.andi 1 2 0xffff) (small.withRegs [(1, 0xFFFFFFFF12348765)]) 2 0x0000000000008765 = true := by decide

theorem test_ori : gives (.ori 1 2 0x8000) (small.withRegs [(1, 0x0000000000000000)]) 2 0x0000000000008000 = true := by decide

theorem test_xori : gives (.xori 1 2 0xffff) (small.withRegs [(1, 0xFFFFFFFFFFFFFFFF)]) 2 0xFFFFFFFFFFFF0000 = true := by decide

theorem test_lui : gives (.lui 2 0x8000) small 2 0xFFFFFFFF80000000 = true := by decide

theorem test_nor : gives (.nor 1 2 3) (small.withRegs [(1, 0x0000000000000000), (2, 0x0000000000000000)]) 3 0xFFFFFFFFFFFFFFFF = true := by decide

theorem test_and : gives (.and 1 2 3) (small.withRegs [(1, 0xFF00FF00FF00FF00), (2, 0x0FF00FF00FF00FF0)]) 3 0x0F000F000F000F00 = true := by decide

theorem test_xor : gives (.xor 1 2 3) (small.withRegs [(1, 0xFF00FF00FF00FF00), (2, 0x0FF00FF00FF00FF0)]) 3 0xF0F0F0F0F0F0F0F0 = true := by decide

theorem test_sll : gives (.sll 1 2 0x1f) (small.withRegs [(1, 0x0000000000000001)]) 2 0xFFFFFFFF80000000 = true := by decide

theorem test_srl : gives (.srl 1 2 0) (small.withRegs [(1, 0xFFFFFFFF80000000)]) 2 0xFFFFFFFF80000000 = true := by decide

theorem test_sra : gives (.sra 1 2 0x1f) (small.withRegs [(1, 0xFFFFFFFF80000000)]) 2 0xFFFFFFFFFFFFFFFF = true := by decide

theorem test_sllv : gives (.sllv 1 2 3) (small.withRegs [(1, 0x0000000000000021), (2, 0x0000000000000001)]) 3 0x0000000000000002 = true := by decide

theorem test_srlv : gives (.srlv 1 2 3) (small.withRegs [(1, 0x000000000000003F), (2, 0xFFFFFFFF80000000)]) 3 0x0000000000000001 = true := by decide

theorem test_srav : gives (.srav 1 2 3) (small.withRegs [(1, 0x0000000000000020), (2, 0xFFFFFFFF80000000)]) 3 0xFFFFFFFF80000000 = true := by decide

theorem test_dsll : gives (.dsll 1 2 0x1f) (small.withRegs [(1, 0x0000000000000003)]) 2 0x0000000180000000 = true := by decide

theorem test_dsll32 : gives (.dsll32 1 2 0x1f) (small.withRegs [(1, 0x0000000000000003)]) 2 0x8000000000000000 = true := by decide

theorem test_dsrl32 : gives (.dsrl32 1 2 0) (small.withRegs [(1, 0x89ABCDEF01234567)]) 2 0x0000000089ABCDEF = true := by decide

theorem test_dsra32 : gives (.dsra32 1 2 0) (small.withRegs [(1, 0x89ABCDEF01234567)]) 2 0xFFFFFFFF89ABCDEF = true := by decide

theorem test_dsra : gives (.dsra 1 2 1) (small.withRegs [(1, 0x8000000000000000)]) 2 0xC000000000000000 = true := by decide

theorem test_dsrl : gives (.dsrl 1 2 1) (small.withRegs [(1, 0x8000000000000000)]) 2 0x4000000000000000 = true := by decide

theorem test_dsllv : gives (.dsllv 1 2 3) (small.withRegs [(1, 0x000000000000007F), (2, 0x0000000000000001)]) 3 0x8000000000000000 = true := by decide

theorem test_dsrlv : gives (.dsrlv 1 2 3) (small.withRegs [(1, 0x0000000000000040), (2, 0x00000000000000F0)]) 3 0x00000000000000F0 = true := by decide

theorem test_dsrav : gives (.dsrav 1 2 3) (small.withRegs [(1, 0x000000000000003F), (2, 0x8000000000000000)]) 3 0xFFFFFFFFFFFFFFFF = true := by decide

theorem test_mult : givesHiLo (.mult 1 2) (small.withRegs [(1, 0x000000007FFFFFFF), (2, 0x000000007FFFFFFF)]) 0x000000003FFFFFFF 0x0000000000000001 = true := by decide

theorem test_multu : givesHiLo (.multu 1 2) (small.withRegs [(1, 0xFFFFFFFFFFFFFFFF), (2, 0xFFFFFFFFFFFFFFFF)]) 0xFFFFFFFFFFFFFFFE 0x0000000000000001 = true := by decide

theorem test_dmult : givesHiLo (.dmult 1 2) (small.withRegs [(1, 0xFFFFFFFFFFFFFFFF), (2, 0x0000000000000002)]) 0xFFFFFFFFFFFFFFFF 0xFFFFFFFFFFFFFFFE = true := by decide

theorem test_dmultu : givesHiLo (.dmultu 1 2) (small.withRegs [(1, 0xFFFFFFFFFFFFFFFF), (2, 0x0000000000000002)]) 0x0000000000000001 0xFFFFFFFFFFFFFFFE = true := by decide

theorem test_div : givesHiLo (.div 1 2) (small.withRegs [(1, 0xFFFFFFFFFFFFFFF9), (2, 0x0000000000000002)]) 0xFFFFFFFFFFFFFFFF 0xFFFFFFFFFFFFFFFD = true := by decide

theorem test_divu : givesHiLo (.divu 1 2) (small.withRegs [(1, 0xFFFFFFFFFFFFFFFF), (2, 0x0000000000000002)]) 0x0000000000000001 0x000000007FFFFFFF = true := by decide

theorem test_ddiv : givesHiLo (.ddiv 1 2) (small.withRegs [(1, 0xFFFFFFFFFFFFFFF9), (2, 0x0000000000000002)]) 0xFFFFFFFFFFFFFFFF 0xFFFFFFFFFFFFFFFD = true := by decide

theorem test_ddivu : givesHiLo (.ddivu 1 2) (small.withRegs [(1, 0xFFFFFFFFFFFFFFFF), (2, 0x0000000000000010)]) 0x000000000000000F 0x0FFFFFFFFFFFFFFF = true := by decide

theorem test_mthi : givesHiLo (.mthi 1) { small.withRegs [(1, 0x0000000000001234)] with hi := 0x0000000000000007, lo := 0x0000000000000009 } 0x0000000000001234 0x0000000000000009 = true := by decide

theorem test_mtlo : givesHiLo (.mtlo 1) { small.withRegs [(1, 0x0000000000001234)] with hi := 0x0000000000000007, lo := 0x0000000000000009 } 0x0000000000000007 0x0000000000001234 = true := by decide

theorem test_madd16 : givesHiLo (.madd16 1 2) { small.withRegs [(1, 0x0000000000000001), (2, 0x0000000000000001)] with hi := 0x1234567800000005, lo := 0xABCDEF0000000007 } 0x0000000000000005 0x0000000000000008 = true := by decide

theorem test_dmadd16 : nextIs (exec (.dmadd16 1 2) { small.withRegs [(1, 0x0000000000000003), (2, 0xFFFFFFFFFFFFFFFE)] with hi := 0x0000000000000000, lo := 0x000000000000000A }) (fun t => t.lo == 0x0000000000000004 && !t.trapped) = true := by decide

theorem test_or : gives (.or 7 0 8) (small.withRegs [(7, 0x0123456789ABCDEF)]) 8 0x0123456789ABCDEF = true := by decide

theorem test_mfhi : gives (.mfhi 8) { small with hi := 0x123456789ABCDEF0 } 8 0x123456789ABCDEF0 = true := by decide

theorem test_mflo : gives (.mflo 8) { small with lo := 0x123456789ABCDEF0 } 8 0x123456789ABCDEF0 = true := by decide

theorem test_beq : jumps (.beq 1 2 0x10) (small.withRegs [(1, 0x0000000000000005), (2, 0x0000000000000005)]) 0xFFFFFFFF80001044 0 = true := by decide

theorem test_bne : jumps (.bne 1 2 0x7fff) (small.withRegs [(1, 0x0000000000000001), (2, 0x0000000000000002)]) 0xFFFFFFFF80021000 0 = true := by decide

theorem test_blez : jumps (.blez 1 2) (small.withRegs [(1, 0x0000000000000000)]) 0xFFFFFFFF8000100C 0 = true := by decide

theorem test_bgtz : jumps (.bgtz 1 2) (small.withRegs [(1, 0x0000000000000000)]) 0xFFFFFFFF80001008 0 = true := by decide

theorem test_bltz : jumps (.bltz 1 2) (small.withRegs [(1, 0x8000000000000000)]) 0xFFFFFFFF8000100C 0 = true := by decide

theorem test_bgez : jumps (.bgez 1 2) (small.withRegs [(1, 0x0000000000000000)]) 0xFFFFFFFF8000100C 0 = true := by decide

theorem test_bltzal : jumps (.bltzal 1 2) (small.withRegs [(1, 0x0000000000000001)]) 0xFFFFFFFF80001008 0xFFFFFFFF80001008 = true := by decide

theorem test_bgezal : jumps (.bgezal 0 2) small 0xFFFFFFFF8000100C 0xFFFFFFFF80001008 = true := by decide

theorem test_beql : jumps (.beql 1 2 0x10) (small.withRegs [(1, 0x0000000000000005), (2, 0x0000000000000005)]) 0xFFFFFFFF80001044 0 = true := by decide

theorem test_beql_untaken : nextIs (exec (.beql 1 2 0x10) (small.withRegs [(1, 0x0000000000000005), (2, 0x0000000000000006)])) (fun t => t.pc == 0xFFFFFFFF80001008 && t.npc == 0xFFFFFFFF8000100C && !t.ds && t.reg 31 == 0) = true := by decide

theorem test_bnel_untaken : nextIs (exec (.bnel 1 2 0x10) (small.withRegs [(1, 0x0000000000000005), (2, 0x0000000000000005)])) (fun t => t.pc == 0xFFFFFFFF80001008 && t.npc == 0xFFFFFFFF8000100C && !t.ds && t.reg 31 == 0) = true := by decide

theorem test_blezl : jumps (.blezl 1 2) (small.withRegs [(1, 0xFFFFFFFFFFFFFFFF)]) 0xFFFFFFFF8000100C 0 = true := by decide

theorem test_bgtzl_untaken : nextIs (exec (.bgtzl 1 2) (small.withRegs [(1, 0xFFFFFFFFFFFFFFFF)])) (fun t => t.pc == 0xFFFFFFFF80001008 && t.npc == 0xFFFFFFFF8000100C && !t.ds && t.reg 31 == 0) = true := by decide

theorem test_bltzl_untaken : nextIs (exec (.bltzl 1 2) (small.withRegs [(1, 0x0000000000000000)])) (fun t => t.pc == 0xFFFFFFFF80001008 && t.npc == 0xFFFFFFFF8000100C && !t.ds && t.reg 31 == 0) = true := by decide

theorem test_bgezl : jumps (.bgezl 1 2) (small.withRegs [(1, 0x0000000000000000)]) 0xFFFFFFFF8000100C 0 = true := by decide

theorem test_bltzall_untaken : nextIs (exec (.bltzall 1 2) (small.withRegs [(1, 0x0000000000000000)])) (fun t => t.pc == 0xFFFFFFFF80001008 && t.npc == 0xFFFFFFFF8000100C && !t.ds && t.reg 31 == 0xFFFFFFFF80001008) = true := by decide

theorem test_bgezall : jumps (.bgezall 1 2) (small.withRegs [(1, 0x0000000000000000)]) 0xFFFFFFFF8000100C 0xFFFFFFFF80001008 = true := by decide

theorem test_j : jumps (.j 0x800) small 0xFFFFFFFF80002000 0 = true := by decide

theorem test_jal : jumps (.jal 0x3ffffff) small 0xFFFFFFFF8FFFFFFC 0xFFFFFFFF80001008 = true := by decide

theorem test_jr : jumps (.jr 1) (small.withRegs [(1, 0xFFFFFFFFA0002000)]) 0xFFFFFFFFA0002000 0 = true := by decide

theorem test_jalr : jumps (.jalr 1 31) (small.withRegs [(1, 0xFFFFFFFF80002000)]) 0xFFFFFFFF80002000 0xFFFFFFFF80001008 = true := by decide

theorem test_bnel : jumps (.bnel 1 2 0x10) (small.withRegs [(1, 5)]) 0xFFFFFFFF80001044 0 = true := by decide

theorem test_bgtzl : jumps (.bgtzl 1 2) (small.withRegs [(1, 5)]) 0xFFFFFFFF8000100C 0 = true := by decide

theorem test_bltzl : jumps (.bltzl 1 2) (small.withRegs [(1, 0x8000000000000000)]) 0xFFFFFFFF8000100C 0 = true := by decide

theorem test_bltzall : jumps (.bltzall 1 2) (small.withRegs [(1, 0x8000000000000000)]) 0xFFFFFFFF8000100C 0xFFFFFFFF80001008 = true := by decide

theorem test_tge_passes : nextIs (exec (.tge 1 2 0) (small.withRegs [(1, 0xFFFFFFFFFFFFFFFF), (2, 0x0000000000000000)])) (fun t => t.pc == 0xFFFFFFFF80001004 && !t.trapped) = true := by decide

theorem test_tge : traps (.tge 1 2 0) (small.withRegs [(1, 0x0000000000000005), (2, 0x0000000000000005)]) 13 = true := by decide

theorem test_tgeu : traps (.tgeu 1 2 0) (small.withRegs [(1, 0xFFFFFFFFFFFFFFFF), (2, 0x0000000000000000)]) 13 = true := by decide

theorem test_tlt : traps (.tlt 1 2 0) (small.withRegs [(1, 0xFFFFFFFFFFFFFFFF), (2, 0x0000000000000000)]) 13 = true := by decide

theorem test_tltu_passes : nextIs (exec (.tltu 1 2 0) (small.withRegs [(1, 0xFFFFFFFFFFFFFFFF), (2, 0x0000000000000000)])) (fun t => t.pc == 0xFFFFFFFF80001004 && !t.trapped) = true := by decide

theorem test_teq : traps (.teq 0 0 0) small 13 = true := by decide

theorem test_teq_passes : nextIs (exec (.teq 1 2 0x3ff) (small.withRegs [(1, 0x0000000000000001), (2, 0x0000000000000002)])) (fun t => t.pc == 0xFFFFFFFF80001004 && !t.trapped) = true := by decide

theorem test_tne : traps (.tne 1 2 0) (small.withRegs [(1, 0x00000000FFFFFFFF), (2, 0xFFFFFFFFFFFFFFFF)]) 13 = true := by decide

theorem test_tgei : traps (.tgei 1 0xffff) (small.withRegs [(1, 0xFFFFFFFFFFFFFFFF)]) 13 = true := by decide

theorem test_tgeiu_passes : nextIs (exec (.tgeiu 1 0xffff) (small.withRegs [(1, 0x0000000000000005)])) (fun t => t.pc == 0xFFFFFFFF80001004 && !t.trapped) = true := by decide

theorem test_tlti : traps (.tlti 1 0) (small.withRegs [(1, 0x8000000000000000)]) 13 = true := by decide

theorem test_tltiu : traps (.tltiu 1 0x8000) (small.withRegs [(1, 0x7FFFFFFFFFFFFFFF)]) 13 = true := by decide

theorem test_teqi : traps (.teqi 1 0x7fff) (small.withRegs [(1, 0x0000000000007FFF)]) 13 = true := by decide

theorem test_tnei_passes : nextIs (exec (.tnei 1 0) (small.withRegs [(1, 0x0000000000000000)])) (fun t => t.pc == 0xFFFFFFFF80001004 && !t.trapped) = true := by decide

theorem test_syscall : traps (.syscall 0) small 8 = true := by decide

theorem test_brk : traps (.brk 0) small 9 = true := by decide

theorem test_sync : nextIs (exec .sync small) (fun t => t.pc == 0xFFFFFFFF80001004 && !t.trapped) = true := by decide

theorem test_ll : traps (.ll 4 8 0) (small.withRegs [(4, 0xFFFFFFFF80003001)]) 10 = true := by decide

theorem test_sc : traps (.sc 4 8 0) (small.withRegs [(4, 0xFFFFFFFF80003001)]) 10 = true := by decide

theorem test_lld : traps (.lld 4 8 0) (small.withRegs [(4, 0xFFFFFFFF80003001)]) 10 = true := by decide

theorem test_scd : traps (.scd 4 8 0) (small.withRegs [(4, 0xFFFFFFFF80003001)]) 10 = true := by decide

theorem test_cop1 : traps (.cop1 0x2041000) small 10 = true := by decide

theorem test_lwc1 : traps (.lwc1 4 0 0) (small.withRegs [(4, 0xFFFFFFFF80003001)]) 10 = true := by decide

theorem test_swc1 : traps (.swc1 4 0 0) (small.withRegs [(4, 0xFFFFFFFF80003001)]) 10 = true := by decide

theorem test_ldc1 : traps (.ldc1 4 0 0) (small.withRegs [(4, 0xFFFFFFFF80003001)]) 10 = true := by decide

theorem test_sdc1 : traps (.sdc1 4 0 0) (small.withRegs [(4, 0xFFFFFFFF80003001)]) 10 = true := by decide

theorem test_cop2 : traps (.cop2 0x0) small 10 = true := by decide

theorem test_lwc2 : traps (.lwc2 4 0 0) (small.withRegs [(4, 0xFFFFFFFF80003001)]) 10 = true := by decide

theorem test_sdc2 : traps (.sdc2 4 0 0) (small.withRegs [(4, 0xFFFFFFFF80003001)]) 10 = true := by decide

theorem test_tltu : traps (.tltu 1 2 0) (small.withRegs [(2, 1)]) 13 = true := by decide

theorem test_tgeiu : traps (.tgeiu 1 5) (small.withRegs [(1, 0x8000000000000000)]) 13 = true := by decide

theorem test_tnei : traps (.tnei 1 0) (small.withRegs [(1, 1)]) 13 = true := by decide

theorem test_cop3 : traps (.cop3 0x2345678) small 10 = true := by decide

theorem test_swc2 : traps (.swc2 4 8 0) small 10 = true := by decide

theorem test_ldc2 : traps (.ldc2 4 8 0) small 10 = true := by decide


theorem test_addi : gives (.addi 5 8 0xFFFE) (small.withRegs [(5, 1)]) 8 0xFFFFFFFFFFFFFFFF = true := by decide

theorem test_daddi : gives (.daddi 7 8 0xFFFF) (small.withRegs [(7, 0x0123456789ABCDEF)]) 8 0x0123456789ABCDEE = true := by
  decide

theorem test_sub : gives (.sub 6 5 8) (small.withRegs [(5, 1), (6, 0xFFFFFFFF80000001)]) 8 0xFFFFFFFF80000000 = true := by
  decide

theorem test_dadd : gives (.dadd 7 5 8) (small.withRegs [(7, 0x0123456789ABCDEF), (5, 1)]) 8 0x0123456789ABCDF0 = true := by
  decide

theorem test_dsub : gives (.dsub 0 7 8) (small.withRegs [(7, 0x0123456789ABCDEF)]) 8 0xFEDCBA9876543211 = true := by decide

/-- An outcome is a refusal with this name. -/
def refuses (i : Instr) (s : State) (r : Refusal) : Bool :=
  match exec i s with
  | .refused q => q == r
  | _ => false

/-- `small` in user mode. -/
def smallUser : State := small.mapStatus fun st => { st with ksu := 2 }

theorem test_mfc0 :
    gives (.mfc0 8 14) (small.mapCp0 fun c => { c with epc := 0x1234567890 }) 8 0x34567890 = true := by decide

theorem test_mfc0_unusable : traps (.mfc0 8 12) smallUser 11 = true := by decide

theorem test_mtc0 :
    nextIs (exec (.mtc0 8 13) ((small.mapCp0 fun c => { c with cause := { c.cause with bd := true, excCode := 12 } }).setReg 8
      0xFFFFFFFFFFFFFFFF)) (fun t => t.cp0Read 13 == 0x80000330) = true := by decide

theorem test_mtc0_status :
    refuses (.mtc0 8 12) (small.setReg 8 0x18) .undefinedMode = true
      ∧ nextIs (exec (.mtc0 8 12) (small.setReg 8 0xFFFFFFFFFFFFFFEF)) (fun t => t.cp0Read 12 == 0x1257FFEF) = true := by
  decide

theorem test_dmfc0 :
    gives (.dmfc0 8 14) (small.mapCp0 fun c => { c with epc := 0x1234567890 }) 8 0x1234567890 = true := by decide

theorem test_dmfc0_narrow : refuses (.dmfc0 8 12) small .cp0RegisterWidth = true := by decide

theorem test_dmtc0 :
    nextIs (exec (.dmtc0 8 10) (small.setReg 8 0xC00000FFFFFFE7FF)) (fun t =>
      t.cp0Read 10 == 0xC00000FFFFFFE0FF && t.cp0.entryHi.vpn2 == 0x1FFFFFFC) = true := by decide

/-- The registers of the TLBWI example of 45:R366. -/
def smallTlb : State :=
  small.mapCp0 fun c =>
    { c with
      pageMask := 0x03, index := { c.index with index := 5 }, entryHi := { r := 0, vpn2 := 0x800, asid := 0x12 }
      entryLo0 := EntryLo.ofImage 0x8C1F, entryLo1 := EntryLo.ofImage 0x8D1F }

/-- The entry of the TLBWI example of 45:R366. -/
def exampleEntry : TlbEntry where
  mask := 0x03
  r := 0
  vpn2 := 0x800
  g := true
  asid := 0x12
  even := { pfn := 0x230, c := 3, d := true, v := true }
  odd := { pfn := 0x234, c := 3, d := true, v := true }

theorem test_tlbwi : nextIs (exec .tlbwi smallTlb) (fun t => t.tlbEntry 5 == exampleEntry) = true := by decide

theorem test_tlbr :
    nextIs (exec .tlbr ((small.setTlbEntry 5 exampleEntry).mapCp0 fun c => { c with index := { c.index with index := 5 } })) (fun t =>
      t.cp0Read 5 == 0x1800 && t.cp0Read 10 == 0x400012 && t.cp0Read 2 == 0x8C1F && t.cp0Read 3 == 0x8D1F) = true := by
  decide

theorem test_tlbwr :
    nextIs (exec .tlbwr (smallTlb.mapCp0 fun c => { c with wired := 8, random := 19 })) (fun t =>
      t.tlbEntry 19 == exampleEntry && t.cp0.random == 18) = true := by decide

theorem test_tlbp :
    nextIs (exec .tlbp ((small.setTlbEntry 5 exampleEntry).mapCp0 fun c =>
      { c with entryHi := { r := 0, vpn2 := 0x802, asid := 0x12 } })) (fun t => t.cp0Read 0 == 5) = true := by decide

theorem test_tlbp_miss :
    nextIs (exec .tlbp ((small.setTlbEntry 5 exampleEntry).mapCp0 fun c =>
      { c with entryHi := { r := 0, vpn2 := 0x1000, asid := 0x12 } })) (fun t => t.cp0.index.p) = true := by decide

theorem test_eret :
    nextIs (exec .eret (small.mapCp0 fun c =>
      { c with epc := 0x400100, status := { c.status with ksu := 2, exl := true, ie := true } })) (fun t =>
      t.pc == 0x400100 && t.npc == 0x400104 && t.cp0Read 12 == 0x11 && t.mode == .user) = true := by decide

theorem test_eret_error_level :
    nextIs (exec .eret (small.mapCp0 fun c =>
      { c with errorEpc := 0xFFFFFFFF80002000, status := { c.status with bev := true, erl := true, exl := true } })) (fun t =>
      t.pc == 0xFFFFFFFF80002000 && t.cp0Read 12 == 0x400002) = true := by decide

/-- The cache line of the examples of 45:R372 and R373: tag 0x123, dirty, all bytes 5, parities right. -/
def dirtyLine : DCacheLine :=
  { DCacheLine.filled 0x48D20 (Vector.replicate 16 5) 0 with w := true, wPrime := true }

/-- `small` with that line at index 0x12 of the data cache and r4 at 0xFFFFFFFF80048D20. -/
def smallDirty : State := (small.setDLine 0x12 dirtyLine).setReg 4 0xFFFFFFFF80048D20

/-- `small` with an instruction cache line of physical 0x1230 at index 0x23 and r4 at 0xFFFFFFFF80001238. -/
def smallCode : State :=
  (small.setILine 0x23 (ICacheLine.filled 0x1230 (Vector.replicate 16 6) 0)).setReg 4 0xFFFFFFFF80001238

theorem test_cacheIndexInvalidateI :
    nextIs (exec (.cacheIndexInvalidateI 4 0) (smallCode.setReg 4 0xFFFFFFFF80000A30)) (fun t => !(t.iLine 0x23).v) = true := by
  decide

theorem test_cacheIndexWriteBackInvalidateD :
    nextIs (exec (.cacheIndexWriteBackInvalidateD 4 0) (smallDirty.setReg 4 0xFFFFFFFF80000120)) (fun t =>
      !(t.dLine 0x12).v && t.mem.read 0x48D20 == 5 && t.mem.read 0x48D2F == 5 && t.mem.read 0x48D30 == 0) = true := by decide

theorem test_cacheIndexLoadTagI :
    nextIs (exec (.cacheIndexLoadTagI 4 0) smallCode) (fun t => t.cp0.tagLo.ptag == 4 && t.cp0.tagLo.v) = true := by decide

theorem test_cacheIndexLoadTagD :
    nextIs (exec (.cacheIndexLoadTagD 4 0) (smallDirty.setReg 4 0xFFFFFFFF80000120)) (fun t =>
      t.cp0.tagLo.ptag == 0x123 && t.cp0.tagLo.v && t.cp0.tagLo.w) = true := by decide

theorem test_cacheIndexStoreTagI :
    nextIs (exec (.cacheIndexStoreTagI 4 0) ((small.setReg 4 0xFFFFFFFF80000400).mapCp0 fun c =>
      { c with tagLo := { c.tagLo with ptag := 7, v := true } })) (fun t =>
      (t.iLine 0x40).ptag == 7 && (t.iLine 0x40).v && (t.iLine 0x40).p) = true := by decide

theorem test_cacheIndexStoreTagD :
    nextIs (exec (.cacheIndexStoreTagD 4 0) ((small.setReg 4 0xFFFFFFFF80000400).mapCp0 fun c =>
      { c with tagLo := { c.tagLo with ptag := 3, v := true, w := true } })) (fun t =>
      (t.dLine 0).ptag == 3 && (t.dLine 0).v && (t.dLine 0).w && (t.dLine 0).wPrime && !(t.dLine 0).p) = true := by decide

theorem test_cacheCreateDirtyD :
    nextIs (exec (.cacheCreateDirtyD 4 0) (smallDirty.setReg 4 0xFFFFFFFF80001120)) (fun t =>
      t.mem.read 0x48D20 == 5 && (t.dLine 0x12).ptag == 4 && (t.dLine 0x12).v && (t.dLine 0x12).w
        && (t.dLine 0x12).byte 0 == 5) = true := by decide

theorem test_cacheHitInvalidateI :
    nextIs (exec (.cacheHitInvalidateI 4 0) smallCode) (fun t => !(t.iLine 0x23).v) = true := by decide

theorem test_cacheHitInvalidateD :
    nextIs (exec (.cacheHitInvalidateD 4 0) smallDirty) (fun t => !(t.dLine 0x12).v && t.mem.read 0x48D20 == 0) = true := by
  decide

theorem test_cacheFillI :
    nextIs (exec (.cacheFillI 4 0) (small.setReg 4 0xFFFFFFFF80001238)) (fun t =>
      (t.iLine 0x23).v && (t.iLine 0x23).ptag == 4) = true := by decide

theorem test_cacheHitWriteBackInvalidateD :
    nextIs (exec (.cacheHitWriteBackInvalidateD 4 0) smallDirty) (fun t =>
      !(t.dLine 0x12).v && t.mem.read 0x48D2F == 5) = true := by decide

theorem test_cacheHitWriteBackI :
    nextIs (exec (.cacheHitWriteBackI 4 0) smallCode) (fun t => (t.iLine 0x23).v && t.mem.read 0x123F == 6) = true := by
  decide

theorem test_cacheHitWriteBackD :
    nextIs (exec (.cacheHitWriteBackD 4 0) smallDirty) (fun t =>
      (t.dLine 0x12).v && !(t.dLine 0x12).w && t.mem.read 0x48D20 == 5) = true := by decide

theorem test_cache_unusable : traps (.cacheHitWriteBackInvalidateD 4 0) smallUser 11 = true := by decide

theorem test_standby :
    nextIs (exec .standby small) (fun t => t.powerMode == .standby && t.pc == 0xFFFFFFFF80001004) = true := by decide

theorem test_suspend :
    nextIs (exec .suspend small) (fun t => t.powerMode == .suspend && t.pc == 0xFFFFFFFF80001004) = true := by decide

theorem test_hibernate :
    nextIs (exec .hibernate small) (fun t => t.powerMode == .hibernate && t.pc == 0xFFFFFFFF80001004) = true := by decide

/-- The example of 45:R366: the odd page of a 4K pair. -/
theorem test_translate_odd_page :
    (smallUser.setTlbEntry 5 exampleEntry).translate 0x401234 .load
      = .ok { pa := 0x8D234, cached := true } (smallUser.setTlbEntry 5 exampleEntry) := by rfl

/-- A refill in user mode with UX = 0 goes to offset 0 (95 section 2.7 b). -/
theorem test_refill :
    nextIs (exec (.lb 4 8 0) ((smallUser.setTlbEntry 0 exampleEntry).setReg 4 0x10002800)) (fun t =>
      t.pc == 0xFFFFFFFF80000000 && t.cp0.cause.excCode == 2 && t.cp0.badVAddr == 0x10002800
        && t.cp0.context.badVpn2 == 0x20005) = true := by decide

/-- The first instruction after reset, in the byte order of the pins (95 section 2.11). -/
theorem test_first_step : nextIs (step (State.reset.withFetchWord 32 0x3C081234)) (fun t => t.reg 8 == 0x12340000) = true := by
  decide

/-- An exception in a delay slot (95 section 2.5). -/
theorem test_exception_in_slot :
    nextIs (exec (.add 1 1 3) { small.withRegs [(1, 0x7FFFFFFF)] with
      pc := 0xFFFFFFFF80001004, npc := 0xFFFFFFFF80001044, ds := true }) (fun t =>
      t.cp0.epc == 0xFFFFFFFF80001000 && t.cp0.cause.bd && t.cp0.cause.excCode == 12 && t.pc == 0xFFFFFFFF80000180) = true := by
  decide

/-- A timer interrupt discards the instruction it comes with (95 section 2.10 b). -/
theorem test_interrupt :
    nextIs (step ({ small.mapStatus (fun st => { st with im := 0x80, ie := true }) with
      timerPending := true, pc := 0xFFFFFFFFA0001000 })) (fun t =>
      t.cp0.epc == 0xFFFFFFFFA0001000 && t.cp0.cause.excCode == 0 && t.pc == 0xFFFFFFFF80000180) = true := by decide

/-- A watched store (95 section 2.9 e). -/
theorem test_watch :
    nextIs (exec (.sb 4 8 15) ((small.setReg 4 0xFFFFFFFF80003000).mapCp0 fun c =>
      { c with watchLo := { paddr0 := 0x601, r := false, w := true } })) (fun t => t.cp0.cause.excCode == 23) = true := by
  decide

/-- NMI in Suspend (95 section 2.11). -/
theorem test_nmi_in_suspend :
    nextIs ({ small.mapStatus (fun st => { st with im := 0xFF, ie := true }) with
      powerMode := .suspend, nmiPending := true, pc := 0xFFFFFFFF80001004, npc := 0xFFFFFFFF80001008 }).cycle (fun t =>
      t.cp0.errorEpc == 0xFFFFFFFF80001004 && t.cp0Read 12 == 0x50FF05 && t.pc == 0xFFFFFFFFBFC00000) = true := by decide

/-- NMI with TS = 1 (95 section 2.11, last row), in a state that is not stuck. -/
theorem test_nmi_after_shutdown :
    nextIs ({ small.mapStatus (fun st => { st with ts := true }) with nmiPending := true }).cycle (fun t =>
      !t.cp0.status.ts && t.cp0.status.sr && t.pc == 0xFFFFFFFFBFC00000) = true := by decide

/-- TLB shutdown: an NMI does not recover the machine, a soft reset does (10:R72, U4). -/
theorem test_shutdown_is_stuck :
    nextIs ({ small.tlbShutdown with nmiPending := true }).cycle (fun t => t.cp0.status.ts && t.pc == small.pc)
      && nextIs ({ small.tlbShutdown with nmiPending := true, softReset := true }).cycle (fun t =>
        !t.cp0.status.ts && !t.hung && t.pc == 0xFFFFFFFFBFC00000) = true := by decide

/-- A read that is never answered hangs the processor, and an NMI does not recover it (20:R154). -/
theorem test_hang :
    nextIs (exec (.lw 4 8 0) { small.setReg 4 0xFFFFFFFFA0003000 with noResponse := [0xC00] }) (fun t =>
      t.hung && t.pc == small.pc && nextIs ({ t with nmiPending := true }).cycle (fun u => u.hung)
        && nextIs ({ t with softReset := true }).cycle (fun u => !u.hung)) = true := by decide

/-- With DE = 1 a line is filled with the wrong parity the agent supplies; a later hit finds it (20:R156). -/
theorem test_fill_keeps_parity :
    nextIs (exec (.lb 4 8 0) { (small.setReg 4 0xFFFFFFFF80003001).mapStatus (fun st => { st with de := true }) with
      badParity := [0x3001] }) (fun t =>
      nextIs (exec (.lb 4 8 0) (t.mapStatus fun st => { st with de := false })) (fun u => u.cp0.status.erl)
        && nextIs (exec (.lb 4 8 1) (t.mapStatus fun st => { st with de := false })) (fun u => !u.cp0.status.erl)) = true := by
  decide

/-- HizParity acts as it was taken at cold reset (00:R5, 20:R157). -/
theorem test_hizParity :
    (let s := { State.reset with badParity := [0x1FC00000], pins := { Pins.reset with hizParity := true } };
      nextIs s.runInstruction (fun t => t.pc == 0xFFFFFFFFBFC00300)
        && nextIs s.takeColdReset.runInstruction (fun t => t.pc == 0xFFFFFFFFBFC00004)) = true := by decide

/-- The register that MFHI read is open after the second instruction behind it, if the first one wrote HI (70:R470). -/
theorem test_hazard_spoils :
    nextIs (exec (.mfhi 8) small) (fun t => nextIs (exec (.mult 1 2) t) (fun u =>
      u.hiLo == { last := [], beforeLast := [8], spoiled := [8] }
        && nextIs (exec (.mflo 8) u) (fun v => v.hiLo.spoiled == []))) = true := by decide

/-- A program interrupted behind MFHI, and a handler that ends with MFHI and ERET: the first instruction after the return is in
both windows (42:R296, 70:R470). -/
theorem test_hazard_return :
    nextIs (exec (.mfhi 8) small) (fun t => nextIs (exec (.mfhi 9) (t.takeException .int)) (fun u =>
      nextIs (exec .eret u) (fun v =>
        v.hiLo == { last := [8], beforeLast := [9], spoiled := [] } && v.hazardRegs == [8, 9]))) = true := by decide

/-- Where the external agent disables the data check, wrong parity is not noticed; a line filled so keeps it (20:R151, R157). -/
theorem test_unchecked :
    (let s := { small.setReg 4 0xFFFFFFFFA0003000 with badParity := [0x3001], unchecked := [0xC00] };
      nextIs (exec (.lb 4 8 1) s) (fun t => !t.cp0.status.erl)
        && nextIs (exec (.lb 4 8 1) { s with unchecked := [0xC01] }) (fun t => t.cp0.status.erl)
        && nextIs (exec (.lb 4 8 0) (s.setReg 4 0xFFFFFFFF80003000)) (fun t => !t.cp0.status.erl
          && nextIs (exec (.lb 4 8 1) t) (fun u => u.cp0.status.erl))) = true := by decide

/-- MTHI waits for a running divide (42:R295). -/
theorem test_mthi_waits :
    nextIs (exec (.div 1 2) small) (fun t => t.mdBusy != 0 && nextIs (exec (.mthi 3) t) (fun u => u.mdBusy == 0)) = true := by
  decide

/-! ## For every statement with hypotheses, a state and operands that meet them, at the boundaries of its clauses. -/

/-- A state whose caches and external agent are those after reset has no error in the way of an access. -/
theorem clean_of_reset_caches {s : State} (hd : s.dcache = State.reset.dcache) (hi : s.icache = State.reset.icache)
    (hb : s.busErrors = []) (hp : s.badParity = []) (hn : s.noResponse = []) (hm : s.mem.wf = true) : s.Clean := by
  have d : ∀ i, s.dLine i = DCacheLine.reset := fun i => by
    unfold State.dLine; rw [hd]; exact Vector.getElem_replicate ..
  have l : ∀ i, s.iLine i = ICacheLine.reset := fun i => by
    unfold State.iLine; rw [hi]; exact Vector.getElem_replicate ..
  refine ⟨hb, hp, hn, fun i => ?_, fun i o => ?_, fun i => ?_, fun a h => ?_, hm⟩
  · rw [d]; decide
  · rw [d]; revert o; decide
  · rw [l]; decide
  · rw [d] at h; exact absurd h (by simp [DCacheLine.hit, DCacheLine.reset])

theorem next_of_isNext {o : Host.Outcome State Fault Refusal} (h : nextIs o (fun _ => true) = true) : ∃ t, o = .next t := by
  cases o with
  | next t => exact ⟨t, rfl⟩
  | _ => cases h

/-- `small` with an address in r4. -/
def smallAt (a : DWord) : State := small.setReg 4 a

theorem witness_EncodeDecode : decode 0x8C880004 = .ok (.lw 4 8 4) := by decide

theorem witness_ReservedEncodings :
    ((0x70000000 : Word32).extractLsb' 26 6 = 0x1C ∧ (0x7FFFFFFF : Word32).extractLsb' 26 6 = 0x1F)
      ∧ ((0x00000001 : Word32).extractLsb' 26 6 = 0 ∧ (0x00000001 : Word32).extractLsb' 0 6 = 0x01)
      ∧ ((0x0000003D : Word32).extractLsb' 26 6 = 0 ∧ (0x0000003D : Word32).extractLsb' 0 6 = 0x3D)
      ∧ ((0x041F0000 : Word32).extractLsb' 26 6 = 1 ∧ (0x041F0000 : Word32).extractLsb' 16 5 = 0x1F)
      ∧ ((0x40400000 : Word32).extractLsb' 26 6 = 0x10 ∧ (0x40400000 : Word32).extractLsb' 21 5 = 2)
      ∧ ((0x4200003F : Word32).extractLsb' 21 5 = 0x10 ∧ (0x4200003F : Word32).extractLsb' 0 6 = 0x3F)
      ∧ ((0xBC820000 : Word32).extractLsb' 26 6 = 0x2F ∧ (0xBC820000 : Word32).extractLsb' 16 5 = 2)
      ∧ ((0x00A640E0 : Word32).extractLsb' 0 6 = 0x20 ∧ (0x00A640E0 : Word32) &&& 0x000007C0 ≠ 0)
      ∧ ((0x00200000 : Word32).extractLsb' 0 6 = 0 ∧ (0x00200000 : Word32) &&& 0x03E00000 ≠ 0)
      ∧ ((0x0000000F ||| 0x02000000 : Word32).extractLsb' 0 6 = 0x0F ∧ (0x0200000F : Word32) &&& 0x03FFFFC0 ≠ 0)
      ∧ ((0x1C010000 : Word32).extractLsb' 26 6 = 0x07 ∧ (0x1C010000 : Word32) &&& 0x001F0000 ≠ 0)
      ∧ ((0x3C200000 : Word32).extractLsb' 26 6 = 0x0F ∧ (0x3C200000 : Word32) &&& 0x03E00000 ≠ 0)
      ∧ ((0x40040001 : Word32).extractLsb' 21 5 = 0 ∧ (0x40040001 : Word32) &&& 0x7FF ≠ 0)
      ∧ ((0x43000018 : Word32).extractLsb' 0 6 = 0x18 ∧ (0x43000018 : Word32) &&& 0x01FFFFC0 ≠ 0) := by decide

theorem witness_RegisterZero : (31 : Reg) ≠ 0 ∧ (1 : Reg) ≠ 31 := by decide

theorem witness_StepKeepsMemoryCanonical : State.reset.mem.wf = true ∧ ∃ t, step State.reset = .next t :=
  ⟨by decide, next_of_isNext (by decide)⟩

/-- The reset state with Wired = Random. -/
def wiredState : State := State.reset.mapCp0 fun c => { c with wired := 31 }

theorem witness_StepKeepsProcessorInvariant : wiredState.CpuInv ∧ ∃ t, step wiredState = .next t :=
  ⟨⟨by decide, fun i => by
      rw [show wiredState.tlb[i] = TlbEntry.reset from Vector.getElem_replicate ..]; decide, by decide, by decide⟩,
    next_of_isNext (by decide)⟩

theorem witness_StepRunsDecodedInstruction :
    State.reset.Runs ∧ State.reset.interruptPending = false
      ∧ (∃ w t, State.reset.fetch State.reset.pc = .ok w t ∧ decode w = .ok (.sll 0 0 0))
      ∧ State.reset.hiLo.spoiled = [] ∧ State.reset.pc.toNat % 4 = 0
      ∧ State.reset.translate State.reset.pc .fetch = .ok { pa := 0x1FC00000, cached := false } State.reset
      ∧ State.reset.busErrors = [] ∧ State.reset.badParity = [] ∧ State.reset.noResponse = []
      ∧ decodeBytes State.reset.cp0.config.be (State.reset.mem.read 0x1FC00000) (State.reset.mem.read 0x1FC00001)
          (State.reset.mem.read 0x1FC00002) (State.reset.mem.read 0x1FC00003) = .ok (.sll 0 0 0) :=
  ⟨⟨rfl, rfl, rfl, rfl, rfl, rfl, by decide⟩, rfl, ⟨_, _, rfl, rfl⟩, rfl, by decide, rfl, rfl, rfl, rfl, by decide⟩

/-- `small` with an instruction cache line of physical 0x1230, all bytes 0, about to fetch its last word. -/
def smallCodeAt : State :=
  { small.setILine 0x23 { ICacheLine.reset with v := true, ptag := 4, p := true } with
    pc := 0xFFFFFFFF8000123C, npc := 0xFFFFFFFF80001240 }

theorem witness_StepRunsDecodedInstruction_hit :
    smallCodeAt.Runs ∧ smallCodeAt.interruptPending = false ∧ smallCodeAt.pc.toNat % 4 = 0
      ∧ smallCodeAt.translate smallCodeAt.pc .fetch = .ok { pa := 0x123C, cached := true } smallCodeAt
      ∧ ((smallCodeAt.iLine 0x23).v = true ∧ (smallCodeAt.iLine 0x23).ptag = (0x123C : PAddr).extractLsb' 10 22)
      ∧ ((smallCodeAt.iLine 0x23).tagError = false ∧ (smallCodeAt.iLine 0x23).wordError 3 = false)
      ∧ decode (wordInOrder smallCodeAt.cp0.config.be ((smallCodeAt.iLine 0x23).wordBytes 3)) = .ok (.sll 0 0 0) :=
  ⟨⟨rfl, rfl, rfl, rfl, rfl, rfl, by decide⟩, by decide, by decide, rfl, by decide, ⟨by decide, by
    rw [ICacheLine.wordError, show (smallCodeAt.iLine 0x23).wordBytes 3 = 0 by decide]; decide⟩, by decide⟩

theorem witness_StepRunsDecodedInstruction_miss :
    small.Runs ∧ small.interruptPending = false ∧ small.pc.toNat % 4 = 0
      ∧ small.translate small.pc .fetch = .ok { pa := 0x1000, cached := true } small
      ∧ (small.iLine 0).v = false ∧ (small.iLine 0).tagError = false
      ∧ small.busErrors = [] ∧ small.badParity = [] ∧ small.noResponse = []
      ∧ decode (wordInOrder small.cp0.config.be ((ICacheLine.filled 0x1000 (small.mem.readLine 0x100) 0).wordBytes 0))
          = .ok (.sll 0 0 0) :=
  ⟨⟨rfl, rfl, rfl, rfl, rfl, rfl, by decide⟩, by decide, by decide, rfl, by decide, by decide, rfl, rfl, rfl, by decide⟩

/-- `small` at an uncached address with a timer interrupt pending and enabled. -/
def smallInterrupt : State :=
  { small.mapStatus (fun st => { st with im := 0x80, ie := true }) with
    timerPending := true, pc := 0xFFFFFFFFA0001000, npc := 0xFFFFFFFFA0001004 }

theorem witness_InterruptsTaken_pending :
    smallInterrupt.Runs ∧ smallInterrupt.interruptPending = true ∧ ∃ t, smallInterrupt.runInstruction = .next t :=
  ⟨⟨rfl, rfl, rfl, rfl, rfl, rfl, by decide⟩, by decide, next_of_isNext (by decide)⟩

theorem witness_InterruptsTaken_none :
    State.reset.Runs ∧ State.reset.interruptPending = false ∧ ∃ t, State.reset.runInstruction = .next t :=
  ⟨⟨rfl, rfl, rfl, rfl, rfl, rfl, by decide⟩, rfl, next_of_isNext (by decide)⟩

theorem witness_InterruptsTaken_trapped : ∃ t, exec (.syscall 0) small = .next t ∧ t.trapped = true := ⟨_, rfl, rfl⟩

theorem witness_ResetsAndNmi :
    ({ small with coldReset := true, softReset := true } : State).coldReset = true
      ∧ (small.powerMode = .fullspeed ∧ small.coldReset = false
        ∧ ({ small with softReset := true } : State).softReset = true ∧ small.mem.wf = true)
      ∧ (let s : State := { small.mapStatus (fun st => { st with ts := true }) with nmiPending := true };
        s.powerMode = .fullspeed ∧ s.coldReset = false ∧ s.softReset = false ∧ s.hung = false ∧ s.nmiPending = true)
      ∧ small.mdBusy = 0 := by decide

theorem witness_PowerModeSteps :
    (let s : State := { small with powerMode := .standby, coldReset := true };
      s.powerMode = .standby ∧ s.coldReset = true)
      ∧ (let s : State := { small with powerMode := .suspend, softReset := true };
        s.powerMode = .suspend ∧ s.coldReset = false ∧ s.softReset = true)
      ∧ (let s : State := { small with powerMode := .standby, nmiPending := true };
        s.powerMode = .standby ∧ s.coldReset = false ∧ s.softReset = false ∧ s.nmiPending = true)
      ∧ (let s : State := { smallInterrupt with powerMode := .standby };
        s.coldReset = false ∧ s.softReset = false ∧ s.nmiPending = false ∧ s.interruptPending = true)
      ∧ (let s : State := { small with powerMode := .suspend };
        s.coldReset = false ∧ s.softReset = false ∧ s.nmiPending = false ∧ s.causeIp = 0)
      ∧ ({ small with powerMode := .hibernate } : State).powerMode = .hibernate := by decide

theorem witness_BetweenSteps :
    ({ small with powerMode := .hibernate } : State).powerMode = .hibernate ∧ small.powerMode = .fullspeed
      ∧ ({ small with powerMode := .suspend } : State).powerMode = .suspend ∧ small.mem.wf = true := by decide

theorem witness_StuckMachine :
    (smallUser.mode ≠ .undefined ∧ isWord (smallUser.effectiveAddress 0 0) = true
      ∧ smallUser.segment (smallUser.effectiveAddress 0 0) = some .mapped
      ∧ (∃ i j ms, smallUser.tlbMatches ((smallUser.effectiveAddress 0 0).extractLsb' 62 2)
          ((smallUser.effectiveAddress 0 0).extractLsb' 11 29) = i :: j :: ms)
      ∧ Instr.lw 0 8 0 ∈ smallUser.loadForms 0 8 0 ++ smallUser.storeForms 0 8 0
      ∧ Instr.sh 0 8 0 ∈ smallUser.loadForms 0 8 0 ++ smallUser.storeForms 0 8 0
      ∧ (smallUser.mapStatus fun st => { st with cu0 := true }).cp0Usable = true)
      ∧ (let s : State := { smallUser with pc := 0x00001000 };
        s.pc.toNat % 4 = 0 ∧ isWord s.pc = true ∧ s.segment s.pc = some .mapped)
      ∧ (small.mapStatus fun st => { st with ts := true }).cp0.status.ts = true ∧ small.nmiPending = false :=
  ⟨⟨by decide, by decide, by decide, ⟨_, _, _, rfl⟩, by decide, by decide, by decide⟩, by decide, by decide, by decide⟩

theorem witness_StuckMachine_hang :
    (let s : State := { smallAt 0xFFFFFFFFA0003006 with noResponse := [0xC01] };
      s.Reaches (s.effectiveAddress 4 0) .load { pa := 0x3006, cached := false }
        ∧ ∀ a, a ∈ s.laneAddresses 0x3006 { start := s.effectiveAddress 4 0, count := 1 } → a.extractLsb' 2 30 ∈ s.noResponse)
      ∧ (let s : State := { State.reset with noResponse := [0x7F00000] };
        s.pc.toNat % 4 = 0 ∧ s.translate s.pc .fetch = .ok { pa := 0x1FC00000, cached := false } s
          ∧ (0x1FC00000 : PAddr).extractLsb' 2 30 ∈ s.noResponse)
      ∧ (small.powerMode = .fullspeed ∧ small.coldReset = false ∧ small.softReset = false) :=
  ⟨⟨⟨rfl, by decide⟩, fun a h => by
      rw [show State.laneAddresses _ _ _ = [(0x3006 : PAddr)] from rfl] at h
      rw [List.mem_singleton.mp h]; decide⟩, ⟨by decide, rfl, by decide⟩, by decide⟩

theorem witness_ExceptionEntry :
    Exc.sys ≠ .cacheError ∧ (∀ va k, Exc.sys ≠ .addressError va k ∧ Exc.sys ≠ .tlbRefill va k ∧ Exc.sys ≠ .tlbInvalid va k
      ∧ Exc.sys ≠ .tlbMod va) ∧ (∃ n, Exc.cpU 1 = .cpU n) := ⟨nofun, fun _ _ => ⟨nofun, nofun, nofun, nofun⟩, 1, rfl⟩

theorem witness_CodesAndVectors :
    small.cp0.status.exl = false ∧ (small.mapStatus fun st => { st with exl := true }).cp0.status.exl = true
      ∧ ((∀ va k, Exc.ov ≠ .tlbRefill va k) ∧ Exc.ov ≠ .cacheError)
      ∧ (0x3FFFFFFFFFFFFFFF : DWord).extractLsb' 62 2 = 0 ∧ (0x4000000000000000 : DWord).extractLsb' 62 2 = 1
      ∧ (0xFFFFFFFFC0000000 ≤ (0xFFFFFFFFC0000000 : DWord).toNat ∧ (0xFFFFFFFFDFFFFFFF : DWord).toNat ≤ 0xFFFFFFFFDFFFFFFF)
      ∧ ((0xFFFFFFFFE0000000 : DWord).extractLsb' 62 2 ≠ 0
        ∧ ¬((0xFFFFFFFFE0000000 : DWord).extractLsb' 62 2 = 1
          ∨ (0xFFFFFFFFC0000000 ≤ (0xFFFFFFFFE0000000 : DWord).toNat ∧ (0xFFFFFFFFE0000000 : DWord).toNat ≤ 0xFFFFFFFFDFFFFFFF))) :=
  ⟨by decide, by decide, ⟨fun _ _ => nofun, nofun⟩, by decide, by decide, by decide, by decide⟩

theorem witness_AddressRecords : ∃ e, e = Exc.tlbMod 0x80000000 := ⟨_, rfl⟩

theorem witness_CacheErrorEntry : (small.mapStatus fun st => { st with de := true }).cp0.status.de = true := by decide

/-- The word at physical 0x3004 is answered with an error; r4 holds an address of it, uncached or cached. -/
def smallBusError (a : DWord) : State := { smallAt a with busErrors := [0xC01] }

theorem answersInError_of (s : State) (words : WordAddr → Bool) (hn : s.noResponse = []) (hp : s.badParity = [])
    (hb : s.busErrors = [0xC01]) (h : words 0xC01 = true) : s.AnswersInError words :=
  ⟨by simp [hn], by simp [hp], ⟨0xC01, by simp [hb], h⟩⟩

theorem witness_CacheErrorEntry_load :
    let s := smallBusError 0xFFFFFFFFA0003006
    s.Reaches (s.effectiveAddress 4 0) .load { pa := 0x3006, cached := false }
      ∧ (Instr.lh 4 8 0, { start := 0xFFFFFFFFA0003006, count := 2 }) ∈ s.loadParts 4 8 0
      ∧ s.AnswersInError fun w =>
        (s.laneAddresses 0x3006 { start := 0xFFFFFFFFA0003006, count := 2 }).any fun a => wordOf a == w :=
  ⟨⟨rfl, by decide⟩, by decide, answersInError_of _ _ rfl rfl rfl (by decide)⟩

theorem witness_CacheErrorEntry_fill :
    let s := smallBusError 0xFFFFFFFF80003008
    s.Reaches (s.effectiveAddress 4 0) .load { pa := 0x3008, cached := true }
      ∧ s.Reaches (s.effectiveAddress 4 0) .store { pa := 0x3008, cached := true }
      ∧ (s.dLine (dIndex 0x3008)).hit 0x3008 = false ∧ s.DataLineRight (dIndex 0x3008)
      ∧ s.InstructionTagRight (iIndex (s.effectiveAddress 4 0)) ∧ s.cp0Usable = true
      ∧ s.AnswersInError (lineHasWord (lineOf 0x3008)) :=
  ⟨⟨rfl, by decide⟩, ⟨rfl, by decide⟩, by decide, fun _ => by decide, fun _ => by decide, by decide,
    answersInError_of _ _ rfl rfl rfl (by decide)⟩

theorem witness_CacheErrorEntry_fetch :
    let s (a : DWord) : State := { smallBusError 0 with pc := a }
    ((s 0xFFFFFFFFA0003004).translate 0xFFFFFFFFA0003004 .fetch = .ok { pa := 0x3004, cached := false } (s 0xFFFFFFFFA0003004)
      ∧ (s 0xFFFFFFFFA0003004).AnswersInError fun w => w == wordOf 0x3004)
      ∧ (s 0xFFFFFFFF80003000).translate 0xFFFFFFFF80003000 .fetch = .ok { pa := 0x3000, cached := true } (s 0xFFFFFFFF80003000)
      ∧ ((s 0xFFFFFFFF80003000).iLine (iIndex 0xFFFFFFFF80003000)).hit 0x3000 = false
      ∧ (s 0xFFFFFFFF80003000).InstructionTagRight (iIndex 0xFFFFFFFF80003000)
      ∧ (s 0xFFFFFFFF80003000).AnswersInError (lineHasWord (lineOf 0x3000)) :=
  ⟨⟨rfl, answersInError_of _ _ rfl rfl rfl (by decide)⟩, rfl, by decide, fun _ => by decide,
    answersInError_of _ _ rfl rfl rfl (by decide)⟩

/-- `small` at exception level with the undefined KSU. -/
def smallUndefined : State := small.mapStatus fun st => { st with exl := true, ksu := 3 }

theorem witness_ExceptionReturn :
    (small.cp0Usable = true ∧ small.ds = false ∧ ({ small.cp0.status with exl := false } : Status).mode ≠ .undefined)
      ∧ (smallUndefined.cp0Usable = true ∧ smallUndefined.ds = false
        ∧ ({ smallUndefined.cp0.status with exl := false } : Status).mode = .undefined) := by decide

theorem witness_ReturnResumes_tie :
    let s : State := { smallUser with hiLoSaved := [
      { addr := smallUser.pc, gpr := smallUser.gpr, window := { last := [8], beforeLast := [], spoiled := [] }, resumed := false }] }
    s.cp0.status.exl = false ∧ s.cp0.status.erl = false ∧ s.mode ≠ .undefined ∧ s.ds = false ∧ s.hiLo = HiLoWindow.empty
      ∧ (s.takeException .sys).returnProgram s.pc = none := by decide

theorem witness_ReturnResumes :
    Exc.sys ≠ .cacheError ∧ smallUser.cp0.status.exl = false ∧ smallUser.cp0.status.erl = false
      ∧ smallUser.mode ≠ .undefined ∧ smallUser.hiLoSaved = [] := by decide

theorem witness_WordArithmetic :
    (let s := small.withRegs [(1, 0x7FFFFFFF), (2, 0)];
      isWord (s.reg 1) = true ∧ isWord (s.reg 2) = true ∧ (s.reg 1).toInt + (0 : BitVec 16).toInt ≤ 2 ^ 31 - 1
        ∧ -(2 ^ 31) ≤ (s.reg 1).toInt + (s.reg 2).toInt ∧ (s.reg 1).toInt + (s.reg 2).toInt ≤ 2 ^ 31 - 1
        ∧ (s.reg 1).toInt - (s.reg 2).toInt ≤ 2 ^ 31 - 1 ∧ ¬(s.reg 1).toInt + (1 : BitVec 16).toInt ≤ 2 ^ 31 - 1)
      ∧ (let s := small.withRegs [(1, 0xFFFFFFFF80000000), (2, 0xFFFFFFFFFFFFFFFF), (3, 1)];
        isWord (s.reg 1) = true ∧ isWord (s.reg 2) = true ∧ isWord (s.reg 3) = true
          ∧ ¬-(2 ^ 31) ≤ (s.reg 1).toInt + (s.reg 2).toInt ∧ ¬-(2 ^ 31) ≤ (s.reg 1).toInt - (s.reg 3).toInt) := by decide

theorem witness_DoublewordArithmetic :
    let s := small.withRegs [(1, 0x7FFFFFFFFFFFFFFF), (2, 1), (3, 0x8000000000000000)]
    s.is64bitOps = true ∧ (s.reg 1).toInt + (0 : BitVec 16).toInt ≤ 2 ^ 63 - 1
      ∧ ¬(s.reg 1).toInt + (1 : BitVec 16).toInt ≤ 2 ^ 63 - 1 ∧ (s.reg 1).toInt + (s.reg 3).toInt ≤ 2 ^ 63 - 1
      ∧ ¬(s.reg 1).toInt + (s.reg 2).toInt ≤ 2 ^ 63 - 1 ∧ -(2 ^ 63) ≤ (s.reg 3).toInt - (s.reg 4).toInt
      ∧ ¬-(2 ^ 63) ≤ (s.reg 3).toInt - (s.reg 2).toInt := by decide

theorem witness_WordShifts : isWord ((small.setReg 2 0xFFFFFFFF80000000).reg 2) = true := by decide

theorem witness_DoublewordShifts : small.is64bitOps = true := by decide

theorem witness_SixtyFourBitDisabled :
    (smallUser.is64bitOps = false ∧ smallUser.mode ≠ .undefined)
      ∧ (let s := smallUser.mapStatus fun st => { st with cu0 := true };
        s.is64bitOps = false ∧ s.mode ≠ .undefined ∧ s.cp0Usable = true) := by decide

theorem witness_Multiply :
    let s : State := { small with hiLo := { last := [8], beforeLast := [], spoiled := [] } }
    isWord (s.hiLoHazard.reg 1) = true ∧ isWord (s.hiLoHazard.reg 2) = true ∧ s.is64bitOps = true := ⟨rfl, rfl, rfl⟩

theorem witness_Divide :
    let s := small.withRegs [(1, 0xFFFFFFFF80000000), (2, 1), (3, 0x8000000000000000), (4, 0xFFFFFFFFFFFFFFFF)]
    s.hiLoHazard = s ∧ isWord (s.reg 1) = true ∧ isWord (s.reg 2) = true ∧ s.reg 2 ≠ 0
      ∧ ¬((s.reg 1).toInt = -(2 ^ 31) ∧ (s.reg 2).toInt = -1) ∧ s.is64bitOps = true ∧ s.reg 4 ≠ 0
      ∧ ¬((s.reg 3).toInt = -(2 ^ 63) ∧ (s.reg 2).toInt = -1) ∧ ¬((s.reg 1).toInt = -(2 ^ 63) ∧ (s.reg 4).toInt = -1) :=
  ⟨rfl, by decide, by decide, by decide, by decide, by decide, by decide, by decide, by decide⟩

theorem witness_MulDivAlwaysCompletes : small.is64bitOps = true ∧ Instr.mult 8 8 ∈ [Instr.mult 8 8, .multu 8 8] := by decide

theorem witness_SumOfProducts :
    let s := small.withRegs [(1, 0x7FFF), (2, 0xFFFFFFFFFFFF8000)]
    is16 (s.hiLoHazard.reg 1) = true ∧ is16 (s.hiLoHazard.reg 2) = true ∧ s.is64bitOps = true := by decide

theorem witness_HiLoMoves :
    Instr.mthi 8 ∈ [Instr.mfhi 8, .mflo 8, .mthi 8, .mtlo 8] ∧ ∃ t, exec (.mthi 8) { small with mdBusy := 66 } = .next t :=
  ⟨by decide, ⟨_, rfl⟩⟩

theorem witness_HiLoHazard :
    (∃ t, exec (.mfhi 8) small = .next t) ∧ (∃ t, exec .sync small = .next t ∧ t.trapped = false)
      ∧ (∃ t, exec (.mult 1 2) { small with hiLo := { last := [8], beforeLast := [9], spoiled := [] } } = .next t
        ∧ t.trapped = false ∧ t.hiLo.spoiled = [8])
      ∧ ((10 : Reg) ∉ [(8 : Reg)] ++ [9])
      ∧ (small.hiLo.last = [] ∧ small.hiLo.beforeLast = [] ∧ small.hiLo.spoiled = []) :=
  ⟨⟨_, rfl⟩, ⟨_, rfl, rfl⟩, ⟨_, rfl, rfl, rfl⟩, by decide, ⟨rfl, rfl, rfl⟩⟩

/-- A program interrupted at an address with the registers of `small`: behind an MFHI to a register, and an MFHI to r9 and an MTLO
before that. -/
def savedAt (a : DWord) (rd : Reg) : SavedWindow :=
  { addr := a, gpr := small.gpr, window := { last := [rd], beforeLast := [9], spoiled := [9] }, resumed := false }

/-- A program interrupted at 0 with another register 1. -/
def savedOther : SavedWindow := { savedAt 0 10 with gpr := (small.setReg 1 1).gpr }

/-- A program interrupted last, elsewhere, with two other registers. -/
def savedElsewhere : SavedWindow := { savedAt 8 10 with gpr := ((small.setReg 1 1).setReg 2 2).gpr }

/-- ERET of `small` returns to 0: to the last program interrupted there, which has the present registers; with an instruction
skipped; to one there with the present registers, not the last; to one there with the present registers, where another one has
others; and with none certain, one of them gone on once. -/
theorem witness_HiLoHazard_return :
    nextIs (exec .eret { small with hiLoSaved := [savedAt 0 8, savedOther] }) (fun t => !t.trapped && t.pc == 0
        && t.hiLo == (savedAt 0 8).window && t.hiLoSaved == [savedOther] && t.reg 9 == small.reg 9) = true
      ∧ nextIs (exec .eret { small with hiLoSaved := [savedAt (0 - 4) 8] }) (fun t =>
        t.hiLo == { last := [], beforeLast := [8], spoiled := [] }
          && t.hiLoSaved == [{ savedAt (0 - 4) 8 with resumed := true }]) = true
      ∧ nextIs (exec .eret { small with hiLoSaved := [savedElsewhere, savedAt 0 8] }) (fun t =>
        t.hiLo.last == [8] && t.hiLoSaved == [savedElsewhere]) = true
      ∧ nextIs (exec .eret { small with hiLoSaved := [savedElsewhere, savedOther, savedAt 0 8] }) (fun t =>
        t.hiLo.last == [8] && t.hiLoSaved == [savedElsewhere, savedOther]) = true
      ∧ (∀ ws, ws = [savedAt 8 8, savedOther] ∨ ws = [savedOther, savedAt 0 8]
          ∨ ws = [{ savedAt 0 8 with resumed := true }] →
        ({ small with hiLoSaved := ws } : State).returnProgram 0 = none
          ∧ ∃ t, exec .eret { small with hiLoSaved := ws } = .next t ∧ t.trapped = false ∧ t.pc = 0) := by
  refine ⟨by decide, by decide, by decide, by decide, ?_⟩
  rintro ws (rfl | rfl | rfl) <;> exact ⟨by decide, _, rfl, rfl, rfl⟩

/-- A handler that skips the second instruction behind an MFHI whose first one wrote LO: the register is open at once
(70:R470). -/
theorem test_hazard_skipped :
    ∃ t, exec .eret { small with hiLoSaved := [savedAt (0 - 4) 8] } = .next t
      ∧ t.reg 9 = Config.openWord (.hazardAfter 9) small.freeCount := ⟨_, rfl, rfl⟩

theorem witness_HiLoHazard_spoiled :
    ({ small with hiLo := { last := [], beforeLast := [8], spoiled := [8] } } : State).trapped = false
      ∧ (8 : Reg) ≠ 0 ∧ (8 : Reg) ∈ [(8 : Reg)] := by decide

theorem witness_Jumps : small.ds = false := by decide

theorem witness_Branches : small.ds = false := by decide

theorem witness_BranchLikely :
    small.ds = false ∧ small.reg 1 = small.reg 2 ∧ ¬small.reg 1 ≠ small.reg 2 ∧ (small.reg 1).toInt ≤ 0
      ∧ ¬0 < (small.reg 1).toInt ∧ 0 ≤ (small.reg 1).toInt
      ∧ ((small.setReg 1 0xFFFFFFFFFFFFFFFF).reg 1).toInt < 0 := by decide

theorem witness_RefusedForms :
    ({ small with ds := true } : State).ds = true ∧ ({ small with ds := true } : State).cp0Usable = true
      ∧ (small.cp0Usable = true ∧ cp0Unused 7 = true ∧ cp0Unused 31 = true ∧ small.is64bitOps = true)
      ∧ (cp0Unused 12 = false ∧ cp0Wide 12 = false)
      ∧ legalMask (small.mapCp0 fun c => { c with pageMask := 1 }).cp0.pageMask = false := by decide

theorem witness_SyscallBreakSync : small.cp0.status.exl = false := rfl

theorem witness_Traps :
    (let s := small.withRegs [(1, 5), (2, 5), (3, 6)];
      (s.reg 2).toInt ≤ (s.reg 1).toInt ∧ ¬(s.reg 3).toInt ≤ (s.reg 1).toInt ∧ (s.reg 1).toInt < (s.reg 3).toInt
        ∧ s.reg 1 = s.reg 2 ∧ s.reg 1 ≠ s.reg 3 ∧ (s.reg 1).toNat < (s.reg 3).toNat)
      ∧ (let s := small.setReg 1 0xFFFFFFFFFFFF8000;
        s.reg 1 = BitVec.ofInt 64 (0x8000 : BitVec 16).toInt
          ∧ ¬(s.reg 1).toNat < (BitVec.ofInt 64 (0x8000 : BitVec 16).toInt).toNat) := by decide

theorem witness_DeletedInstructions : Instr.ll 4 8 0 ∈ [Instr.ll 4 8 0, .sc 4 8 0] := by decide

theorem smallAt_clean (a : DWord) : (smallAt a).Clean := by
  refine clean_of_reset_caches ?_ ?_ ?_ ?_ ?_ ?_ <;> simp [smallAt] <;> rfl

theorem witness_AlignedLoads_cached :
    (smallAt 0xFFFFFFFF80003008).Clean
      ∧ (smallAt 0xFFFFFFFF80003008).Reaches ((smallAt 0xFFFFFFFF80003008).effectiveAddress 4 0) .load { pa := 0x3008, cached := true }
      ∧ ((smallAt 0xFFFFFFFF80003008).effectiveAddress 4 0).toNat % 8 = 0 ∧ (smallAt 0xFFFFFFFF80003008).is64bitOps = true :=
  ⟨smallAt_clean _, ⟨rfl, by decide⟩, by decide, by decide⟩

theorem witness_AlignedLoads_uncached :
    (smallAt 0xFFFFFFFFA0003006).Clean
      ∧ (smallAt 0xFFFFFFFFA0003006).Reaches ((smallAt 0xFFFFFFFFA0003006).effectiveAddress 4 0xFFFE) .load
          { pa := 0x3004, cached := false }
      ∧ ((smallAt 0xFFFFFFFFA0003006).effectiveAddress 4 0xFFFE).toNat % 4 = 0 :=
  ⟨smallAt_clean _, ⟨rfl, by decide⟩, by decide⟩

theorem witness_UnalignedLoads :
    (smallAt 0xFFFFFFFF80003007).Clean
      ∧ (smallAt 0xFFFFFFFF80003007).Reaches ((smallAt 0xFFFFFFFF80003007).effectiveAddress 4 0) .load { pa := 0x3007, cached := true }
      ∧ (smallAt 0xFFFFFFFF80003007).is64bitOps = true := ⟨smallAt_clean _, ⟨rfl, by decide⟩, by decide⟩

theorem witness_AlignedStores :
    (smallAt 0xFFFFFFFFA0003008).Clean
      ∧ (smallAt 0xFFFFFFFFA0003008).Reaches ((smallAt 0xFFFFFFFFA0003008).effectiveAddress 4 0) .store { pa := 0x3008, cached := false }
      ∧ ((smallAt 0xFFFFFFFFA0003008).effectiveAddress 4 0).toNat % 8 = 0 ∧ (smallAt 0xFFFFFFFFA0003008).is64bitOps = true :=
  ⟨smallAt_clean _, ⟨rfl, by decide⟩, by decide, by decide⟩

theorem witness_UnalignedStores :
    (smallAt 0xFFFFFFFF80003001).Clean
      ∧ (smallAt 0xFFFFFFFF80003001).Reaches ((smallAt 0xFFFFFFFF80003001).effectiveAddress 4 0) .store { pa := 0x3001, cached := true }
      ∧ (smallAt 0xFFFFFFFF80003001).is64bitOps = true := ⟨smallAt_clean _, ⟨rfl, by decide⟩, by decide⟩

theorem witness_MisalignedAccess :
    let s := { smallAt 0xFFFFFFFF80003001 with pc := 0xFFFFFFFF80001002 }
    (s.effectiveAddress 4 0).toNat % 2 ≠ 0 ∧ (s.effectiveAddress 4 1).toNat % 4 ≠ 0 ∧ (s.effectiveAddress 4 3).toNat % 8 ≠ 0
      ∧ s.is64bitOps = true ∧ s.pc.toNat % 4 ≠ 0 := by decide

theorem witness_MisalignedAccess_bytes :
    (smallAt 0xFFFFFFFF80003001).Clean
      ∧ (smallAt 0xFFFFFFFF80003001).Reaches ((smallAt 0xFFFFFFFF80003001).effectiveAddress 4 0) .load { pa := 0x3001, cached := true }
      ∧ (smallAt 0xFFFFFFFF80003001).Reaches ((smallAt 0xFFFFFFFF80003001).effectiveAddress 4 0) .store { pa := 0x3001, cached := true } :=
  ⟨smallAt_clean _, ⟨rfl, by decide⟩, ⟨rfl, by decide⟩⟩

theorem witness_StoreThenLoad :
    (smallAt 0xFFFFFFFF80003008).Clean
      ∧ (smallAt 0xFFFFFFFF80003008).Reaches ((smallAt 0xFFFFFFFF80003008).effectiveAddress 4 0) .store { pa := 0x3008, cached := true }
      ∧ (smallAt 0xFFFFFFFF80003008).Reaches ((smallAt 0xFFFFFFFF80003008).effectiveAddress 4 0) .load { pa := 0x3008, cached := true }
      ∧ (smallAt 0xFFFFFFFF80003008).cp0.status.ce = false
      ∧ ((smallAt 0xFFFFFFFF80003008).effectiveAddress 4 0).toNat % 8 = 0 ∧ (smallAt 0xFFFFFFFF80003008).is64bitOps = true :=
  ⟨smallAt_clean _, ⟨rfl, by decide⟩, ⟨rfl, by decide⟩, by decide, by decide, by decide⟩

/-- A user mode state with the entry of 45:R366 alone in its part of the address space. -/
def smallMapped : State := smallUser.setTlbEntry 5 exampleEntry

theorem witness_MappedTranslation :
    smallMapped.mode ≠ .undefined ∧ isWord (0x401FFF : DWord) = true ∧ smallMapped.segment 0x401FFF = some .mapped
      ∧ (∀ i : Fin 32, (smallMapped.tlb[i]).matchesKey 0 ((0x401FFF : DWord).extractLsb' 11 29) smallMapped.cp0.entryHi.asid = true
          ↔ i = 5)
      ∧ legalMask (smallMapped.tlb[5]).mask = true ∧ (smallMapped.tlb[5]).odd.v = true ∧ (smallMapped.tlb[5]).odd.d = true
      ∧ (∀ i : Fin 32, (smallMapped.tlb[i]).matchesKey 0 ((0x402000 : DWord).extractLsb' 11 29) smallMapped.cp0.entryHi.asid = false) := by
  decide

/-- The same entry with an invalid even and a clean odd page. -/
def smallMappedClean : State :=
  smallUser.setTlbEntry 5
    { exampleEntry with even := { exampleEntry.even with v := false }, odd := { exampleEntry.odd with d := false } }

theorem witness_MappedTranslation_traps :
    (∀ i : Fin 32, (smallMappedClean.tlb[i]).matchesKey 0 ((0x400000 : DWord).extractLsb' 11 29) smallMappedClean.cp0.entryHi.asid = true
        ↔ i = 5)
      ∧ smallMappedClean.segment 0x400000 = some .mapped ∧ isWord (0x400000 : DWord) = true
      ∧ (smallMappedClean.tlb[5]).even.v = false
      ∧ (smallMappedClean.tlb[5]).odd.v = true ∧ (smallMappedClean.tlb[5]).odd.d = false := by decide

/-- A load and a CACHE operation where no entry matches, a store to a clean page, a fetch outside the segments of user mode. -/
theorem witness_MappedTranslation_taken :
    (let s := smallMapped.setReg 4 0x402000;
      s.translate (s.effectiveAddress 4 0) .load = .raise (.tlbRefill 0x402000 .load) s ∧ Instr.ld 4 8 0 ∉ s.loadForms 4 8 0
        ∧ Instr.lw 4 8 0 ∈ s.loadForms 4 8 0)
      ∧ (let s := (smallMapped.setReg 4 0x402000).mapStatus fun st => { st with cu0 := true };
        s.translate (s.effectiveAddress 4 0) .load = .raise (.tlbRefill 0x402000 .load) s ∧ s.cp0Usable = true
          ∧ Instr.cacheFillI 4 0 ∈ cacheForms 4 0)
      ∧ (let s := smallMappedClean.setReg 4 0x401FFF;
        s.translate (s.effectiveAddress 4 0) .store = .raise (.tlbMod 0x401FFF) s ∧ Instr.swl 4 8 0 ∈ s.storeForms 4 8 0)
      ∧ (smallUser.pc.toNat % 4 = 0
        ∧ smallUser.translate smallUser.pc .fetch = .raise (.addressError 0xFFFFFFFF80001000 .fetch) smallUser) :=
  ⟨⟨rfl, by decide, by decide⟩, ⟨rfl, by decide, by decide⟩, ⟨rfl, by decide⟩, by decide, rfl⟩

theorem witness_Segments :
    (small.mode = .kernel ∧ State.reset.mode = .kernel ∧ State.reset.cp0.status.erl = true
        ∧ (0x7FFFFFFF : DWord).toNat ≤ 0x7FFFFFFF)
      ∧ (0xFFFFFFFF80000000 ≤ (0xFFFFFFFF9FFFFFFF : DWord).toNat ∧ (0xFFFFFFFF9FFFFFFF : DWord).toNat ≤ 0xFFFFFFFF9FFFFFFF)
      ∧ (0xFFFFFFFFA0000000 ≤ (0xFFFFFFFFA0000000 : DWord).toNat ∧ (0xFFFFFFFFA0000000 : DWord).toNat ≤ 0xFFFFFFFFBFFFFFFF)
      ∧ 0xFFFFFFFFC0000000 ≤ (0xFFFFFFFFC0000000 : DWord).toNat
      ∧ (small.cp0.status.erl = false ∧ small.cp0.status.kx = false ∧ 0x7FFFFFFF < (0xFFFFFFFF7FFFFFFF : DWord).toNat
        ∧ (0xFFFFFFFF7FFFFFFF : DWord).toNat < 0xFFFFFFFF80000000)
      ∧ (smallUser.mode = .user ∧ 0x7FFFFFFF < (0x80000000 : DWord).toNat) := by decide

/-- A kernel state with 64-bit addresses, and a supervisor state. -/
def smallWide : State := small.mapStatus fun st => { st with kx := true }
def smallSupervisor : State := small.mapStatus fun st => { st with ksu := 1 }

theorem witness_Segments_wide :
    (smallWide.mode = .kernel ∧ smallWide.cp0.status.kx = true ∧ (0xFFFFFFFFFF : DWord).toNat ≤ 0xFFFFFFFFFF)
      ∧ ((0x90000000FFFFFFFF : DWord).toNat / 2 ^ 62 = 2 ∧ (0x90000000FFFFFFFF : DWord).toNat / 2 ^ 32 % 2 ^ 27 = 0
        ∧ (0x9000000100000000 : DWord).toNat / 2 ^ 62 = 2 ∧ (0x9000000100000000 : DWord).toNat / 2 ^ 32 % 2 ^ 27 ≠ 0)
      ∧ (0x4000000000000000 ≤ (0x400000FFFFFFFFFF : DWord).toNat ∧ (0x400000FFFFFFFFFF : DWord).toNat ≤ 0x400000FFFFFFFFFF)
      ∧ (0xC000000000000000 ≤ (0xC00000FF7FFFFFFF : DWord).toNat ∧ (0xC00000FF7FFFFFFF : DWord).toNat ≤ 0xC00000FF7FFFFFFF)
      ∧ (0xFFFFFFFFFF < (0x10000000000 : DWord).toNat ∧ (0x3FFFFFFFFFFFFFFF : DWord).toNat < 0x4000000000000000)
      ∧ (0x400000FFFFFFFFFF < (0x4000010000000000 : DWord).toNat ∧ (0x7FFFFFFFFFFFFFFF : DWord).toNat < 0x8000000000000000)
      ∧ (0xC00000FF7FFFFFFF < (0xC00000FF80000000 : DWord).toNat ∧ (0xFFFFFFFF7FFFFFFF : DWord).toNat < 0xFFFFFFFF80000000)
      ∧ (smallSupervisor.mode = .supervisor ∧ smallSupervisor.cp0.status.sx = false
        ∧ (0xFFFFFFFFC0000000 ≤ (0xFFFFFFFFDFFFFFFF : DWord).toNat ∧ (0xFFFFFFFFDFFFFFFF : DWord).toNat ≤ 0xFFFFFFFFDFFFFFFF)
        ∧ ¬(0xFFFFFFFFE0000000 : DWord).toNat ≤ 0xFFFFFFFFDFFFFFFF ∧ ¬(0xFFFFFFFFE0000000 : DWord).toNat ≤ 0x7FFFFFFF) := by
  decide

/-- `small` with physical 0x3008 to 0x300F watched for loads and stores. -/
def smallWatched (exl : Bool) : State :=
  ((smallAt 0xFFFFFFFF80003008).mapCp0 fun c => { c with watchLo := { paddr0 := 0x601, r := true, w := true } }).mapStatus fun st =>
    { st with exl := exl }

theorem witness_WatchException (exl : Bool) :
    (smallWatched exl).Clean ∧ (smallWatched exl).cp0.status.exl = exl ∧ (smallWatched exl).cp0.status.erl = false
      ∧ (smallWatched exl).translate ((smallWatched exl).effectiveAddress 4 0) .load
          = .ok { pa := 0x3008, cached := true } (smallWatched exl)
      ∧ (smallWatched exl).watchMatch 0x3008 .load = true
      ∧ (smallWatched exl).translate ((smallWatched exl).effectiveAddress 4 0) .store
          = .ok { pa := 0x3008, cached := true } (smallWatched exl)
      ∧ (smallWatched exl).watchMatch 0x3008 .store = true
      ∧ Instr.ld 4 8 0 ∈ (smallWatched exl).loadForms 4 8 0 ∧ Instr.sdr 4 8 0 ∈ (smallWatched exl).storeForms 4 8 0 := by
  refine ⟨clean_of_reset_caches ?_ ?_ ?_ ?_ ?_ ?_, rfl, rfl, ?_, ?_, ?_, ?_, ?_, ?_⟩
  iterate 6 simp [smallWatched, smallAt, State.mapStatus]; rfl
  all_goals (cases exl <;> first | rfl | decide)

theorem witness_Cp0WriteFields : (12 : Reg) ≠ 1 := by decide

theorem witness_Cp0Moves :
    (small.cp0Usable = true ∧ small.mode ≠ .undefined ∧ cp0Unused 12 = false ∧ cp0Unused 30 = false
        ∧ (Status.write (small.reg 8) small.cp0.status).mode ≠ .undefined ∧ isWord (small.reg 8) = true)
      ∧ (Status.write ((small.setReg 8 0x18).reg 8) (small.setReg 8 0x18).cp0.status).mode = .undefined
      ∧ (small.is64bitOps = true ∧ cp0Wide 30 = true) := by decide

theorem witness_TlbInstructions :
    (smallTlb.cp0Usable = true ∧ legalMask smallTlb.cp0.pageMask = true
        ∧ (smallMapped.mapStatus fun st => { st with ksu := 0 }).cp0Usable = true
        ∧ (smallTlb.tlbMatches smallTlb.cp0.entryHi.r smallTlb.cp0.entryHi.vpn2 = []))
      ∧ (let s := (smallTlb.setTlbEntry 5 exampleEntry);
        s.tlbMatches s.cp0.entryHi.r s.cp0.entryHi.vpn2 = [5])
      ∧ ∃ i j ms, small.tlbMatches small.cp0.entryHi.r small.cp0.entryHi.vpn2 = i :: j :: ms :=
  ⟨by decide, by decide, ⟨_, _, _, rfl⟩⟩

theorem witness_CoprocessorUnusable :
    smallUser.cp0Usable = false ∧ (0x4200003F : Word32).extractLsb' 26 6 = 0x10
      ∧ (0xBC820000 : Word32).extractLsb' 26 6 = 0x2F := by decide

theorem witness_CacheTags :
    (smallAt 0xFFFFFFFF80003008).cp0Usable = true
      ∧ (smallAt 0xFFFFFFFF80003008).translate ((smallAt 0xFFFFFFFF80003008).effectiveAddress 4 0) .load
          = .ok { pa := 0x3008, cached := true } (smallAt 0xFFFFFFFF80003008)
      ∧ ((smallAt 0xFFFFFFFF80003008).iLine 0).tagError = false ∧ ((smallAt 0xFFFFFFFF80003008).dLine 0).tagError = false :=
  ⟨by decide, rfl, by decide, by decide⟩

theorem witness_CacheInstructionOps :
    smallCode.cp0Usable = true
      ∧ smallCode.translate (smallCode.effectiveAddress 4 0) .load = .ok { pa := 0x1238, cached := true } smallCode
      ∧ (smallCode.iLine (iIndex (smallCode.effectiveAddress 4 0))).tagError = false
      ∧ ((smallCode.iLine (iIndex (smallCode.effectiveAddress 4 0))).v = true
        ∧ (smallCode.iLine (iIndex (smallCode.effectiveAddress 4 0))).ptag = (0x1238 : PAddr).extractLsb' 10 22)
      ∧ (smallAt 0xFFFFFFFF80001238).iLine (iIndex ((smallAt 0xFFFFFFFF80001238).effectiveAddress 4 0)) = ICacheLine.reset
      ∧ smallCode.busErrors = [] ∧ smallCode.badParity = [] ∧ smallCode.noResponse = [] ∧ smallCode.mem.wf = true :=
  ⟨by decide, rfl, by decide, by decide, by decide, rfl, rfl, rfl, by decide⟩

theorem witness_CacheDataOps :
    smallDirty.cp0Usable = true
      ∧ smallDirty.translate (smallDirty.effectiveAddress 4 0) .load = .ok { pa := 0x48D20, cached := true } smallDirty
      ∧ (smallDirty.dLine 0x12).tagError = false ∧ smallDirty.mem.wf = true
      ∧ ((smallDirty.dLine 0x12).v = true ∧ (smallDirty.dLine 0x12).ptag = (0x48D20 : PAddr).extractLsb' 10 22
        ∧ (smallDirty.dLine 0x12).w = true)
      ∧ (smallDirty.dLine 0x12).ptag ≠ (0x1120 : PAddr).extractLsb' 10 22 ∧ (smallDirty.dLine 0x13).v = false :=
  ⟨by decide, rfl, by decide, by decide, by decide, by decide, by decide⟩

theorem witness_PowerInstructions : small.cp0Usable = true ∧ Instr.hibernate = .hibernate := by decide

theorem witness_Protection :
    smallUser.mode = .user ∧ smallUser.cp0.status.cu0 = false ∧ (∃ t, exec (.sd 0 8 0) smallUser = .next t)
      ∧ (small.mapStatus fun st => { st with ksu := 1 }).mode = .supervisor :=
  ⟨by decide, by decide, next_of_isNext (by decide), by decide⟩

theorem witness_ModeChanges :
    (∃ t, exec (.syscall 0) smallUser = .next t ∧ t.mode ≠ smallUser.mode) ∧ Instr.syscall 0 ≠ .eret
      ∧ (∀ rt, Instr.syscall 0 ≠ .mtc0 rt 12) ∧ small.mode = .kernel :=
  ⟨⟨_, rfl, by decide⟩, nofun, fun _ => nofun, by decide⟩

end Sys2Proof.Machine
end

section
/-! PROOFS. r0 and the reset state: O5, O6 and O7 (10:R21, R80; 60:R411). -/

namespace Sys2Proof.Machine

/-- Settles O5. -/
theorem registerZero : Obligations.RegisterZero := by
  intro s v
  refine ⟨s.reg_zero, rfl, fun r hr => ⟨?_, fun r' hne => State.reg_setReg_other s v hne⟩⟩
  rw [State.reg_setReg_same, if_neg hr]

/-- Above its revision PRId reads implementation 0x0C, whatever the revision (10:R62). -/
theorem State.cp0Read_prId_implementation (s : State) : s.cp0Read 15 &&& 0xFFFFFFFFFFFFFF00 = 0xC00 := by
  show prIdImage.setWidth 64 &&& 0xFFFFFFFFFFFFFF00 = 0xC00
  unfold prIdImage
  generalize Config.prIdRev = revision
  revert revision
  decide

/-- Settles O6. -/
theorem resetValues : Obligations.ResetValues :=
  ⟨rfl, rfl, rfl, rfl, rfl, rfl, rfl, rfl, rfl, rfl, rfl, rfl, rfl, rfl, State.cp0Read_prId_implementation _, rfl⟩

/-- The TLB entries of the reset state have the smallest page size (log 3). -/
theorem State.reset_legalMasks (i : Fin 32) : legalMask (State.reset.tlb[i]).mask = true := by
  rw [show State.reset.tlb[i] = TlbEntry.reset from Vector.getElem_replicate ..]
  rfl

theorem State.reset_cpuInv : State.reset.CpuInv :=
  ⟨by decide, State.reset_legalMasks, by decide, fun _ => rfl⟩

/-- Settles O7. -/
theorem resetMeetsInvariants : Obligations.ResetMeetsInvariants := ⟨State.reset_cpuInv, rfl⟩

end Sys2Proof.Machine
end

section
/-! PROOFS. The processor's invariant (10:R33, R36, R25; 60:R430): what each shared operation does to it, then every instruction
and the step. -/

namespace Sys2Proof.Machine

/-- The part of the state that the processor's invariant speaks of. -/
def State.invariantView (s : State) :
    BitVec 5 × BitVec 5 × Status × Vector TlbEntry 32 × DWord × DWord × Bool :=
  (s.cp0.random, s.cp0.wired, s.cp0.status, s.tlb, s.pc, s.npc, s.ds)

/-- The invariant depends on its view of the state only. -/
theorem State.CpuInv.of_view_eq {s t : State} (h : s.CpuInv) (e : t.invariantView = s.invariantView) : t.CpuInv := by
  simp only [State.invariantView, Prod.mk.injEq] at e
  obtain ⟨hrandom, hwired, hstatus, htlb, hpc, hnpc, hds⟩ := e
  constructor
  · rw [hrandom, hwired]; exact h.randomInRange
  · rw [htlb]; exact h.legalMasks
  · unfold State.mode; rw [hstatus]; exact h.definedMode
  · rw [hds, hpc, hnpc]; exact h.sequential

theorem SameCore.cpuInv {s t : State} (h : SameCore s t) (hs : s.CpuInv) : t.CpuInv :=
  hs.of_view_eq (by rw [h.same]; rfl)

/-- Random never goes below Wired (10:R33). -/
theorem wired_le_nextRandom (random wired : BitVec 5) : wired ≤ nextRandom random wired := by
  unfold nextRandom
  split <;> bv_omega

/-- Nor does it where the decrement is open (D4, log 15). -/
theorem wired_le_randomOnException {s : State} (h : s.CpuInv) : s.cp0.wired ≤ s.randomOnException.cp0.random := by
  show s.cp0.wired ≤ if s.freeBit .randomOnException then _ else _
  split
  · exact wired_le_nextRandom ..
  · exact h.randomInRange

/-- Exception level and error level are kernel mode (60:R430). -/
theorem Status.mode_of_exl {st : Status} (h : st.exl = true) : st.mode = .kernel := by simp [Status.mode, h]
theorem Status.mode_of_erl {st : Status} (h : st.erl = true) : st.mode = .kernel := by simp [Status.mode, h]

section

variable (e : Exc) (s : State)

theorem State.takeException_random : (s.takeException e).cp0.random = s.randomOnException.cp0.random := by cases e <;> rfl
theorem State.takeException_wired : (s.takeException e).cp0.wired = s.cp0.wired := by cases e <;> rfl
theorem State.takeException_tlb : (s.takeException e).tlb = s.tlb := by cases e <;> rfl
theorem State.takeException_npc : (s.takeException e).npc = (s.takeException e).pc + 4 := by cases e <;> rfl

theorem State.takeException_mode : (s.takeException e).mode = .kernel := by
  cases e with
  | cacheError => exact Status.mode_of_erl rfl
  | _ => exact Status.mode_of_exl rfl

end

theorem State.CpuInv.takeException {s : State} (h : s.CpuInv) (e : Exc) : (s.takeException e).CpuInv where
  randomInRange := by
    rw [State.takeException_random, State.takeException_wired]
    exact wired_le_randomOnException h
  legalMasks := by rw [State.takeException_tlb]; exact h.legalMasks
  definedMode := by rw [State.takeException_mode]; nofun
  sequential := fun _ => State.takeException_npc e s

/-- A state left in TLB shutdown or in a hang meets the invariant: neither moves what it speaks of but Status.TS. -/
theorem State.CpuInv.hangUp {s : State} (h : s.CpuInv) : s.hangUp.CpuInv := h.of_view_eq rfl

theorem State.CpuInv.tlbShutdown {s : State} (h : s.CpuInv) : s.tlbShutdown.CpuInv :=
  ⟨h.randomInRange, h.legalMasks, h.definedMode, h.sequential⟩

theorem State.CpuInv.retire {s : State} (h : s.CpuInv) {pc npc : DWord} {ds : Bool} (hseq : ds = false → npc = pc + 4) :
    (s.retire pc npc ds).CpuInv :=
  ⟨wired_le_nextRandom .., h.legalMasks, h.definedMode, hseq⟩

theorem State.CpuInv.advance {s : State} (h : s.CpuInv) : s.advance.CpuInv := h.retire fun _ => rfl

theorem State.CpuInv.forget {s : State} (h : s.CpuInv) (rs : List Reg) (kind : Reg → OpenValue) : (s.forget rs kind).CpuInv :=
  h.of_view_eq (by rw [(State.forget_spec rs kind s).1]; rfl)

/-- An instruction that completes without touching the control state keeps the invariant. -/
theorem Completed.cpuInv {s t : State} (c : Completed s t) (h : s.CpuInv) : t.CpuInv where
  randomInRange := by
    rw [show t.cp0.wired = s.cp0.wired by rw [c.cp0]]
    rcases c.random with e | e <;> rw [e] <;> exact wired_le_nextRandom ..
  legalMasks := by rw [c.tlb]; exact h.legalMasks
  definedMode := by unfold State.mode; rw [c.cp0]; exact h.definedMode
  sequential := c.npc

theorem Trapped.cpuInv {s t : State} (h : Trapped s t) (hs : s.CpuInv) : t.CpuInv := by
  obtain ⟨u, hu, ⟨e, rfl⟩ | rfl | rfl⟩ := h
  · exact (hu.cpuInv hs).takeException e
  · exact (hu.cpuInv hs).tlbShutdown
  · exact (hu.cpuInv hs).hangUp

/-- An outcome that, if it is a next state, meets the invariant. -/
def LeavesCpuInv (o : Host.Outcome State Fault Refusal) : Prop := ∀ t, o = .next t → t.CpuInv

theorem LeavesCpuInv.next {t : State} (h : t.CpuInv) : LeavesCpuInv (.next t) := fun _ e => by cases e; exact h
theorem LeavesCpuInv.refused (r : Refusal) : LeavesCpuInv (.refused r) := fun _ e => nomatch e
theorem LeavesCpuInv.fault (f : Fault) : LeavesCpuInv (.fault f) := fun _ e => nomatch e

theorem LeavesCpuInv.raise {s : State} (h : s.CpuInv) (e : Exc) : LeavesCpuInv (s.raise e) := .next (h.takeException e)

theorem LeavesCpuInv.ite {c : Prop} [Decidable c] {o p : Host.Outcome State Fault Refusal} (h : c → LeavesCpuInv o)
    (g : LeavesCpuInv p) : LeavesCpuInv (if c then o else p) := by
  split
  · exact h ‹_›
  · exact g

theorem LeavesCpuInv.requiresCp0 {s : State} {k : Host.Outcome State Fault Refusal} (h : s.CpuInv) (g : LeavesCpuInv k) :
    LeavesCpuInv (s.requiresCp0 k) := .ite (fun _ => g) (.raise h _)

theorem LeavesCpuInv.requires64 {s : State} {k : Host.Outcome State Fault Refusal} (h : s.CpuInv) (g : LeavesCpuInv k) :
    LeavesCpuInv (s.requires64 k) := .ite (fun _ => g) (.ite (fun _ => .refused _) (.raise h _))

theorem LeavesCpuInv.namesCp0Register {rd : Reg} {k : Host.Outcome State Fault Refusal} (g : LeavesCpuInv k) :
    LeavesCpuInv (namesCp0Register rd k) := .ite (fun _ => .refused _) g

/-- Where a part of an instruction ends early, the instruction keeps the invariant; where it completes, the rest decides. -/
theorem LeavesCpuInv.finish {α : Type} {s : State} {m : Access α} {k : α → State → Access Unit} (h : s.CpuInv) (tame : m.Tame s)
    (g : ∀ a t, m = .ok a t → LeavesCpuInv (k a t).finish) : LeavesCpuInv (m.andThen k).finish := by
  cases m with
  | ok a t => exact g a t rfl
  | raise e t => exact .raise (SameCore.cpuInv tame h) e
  | shutdown t => exact .next (SameCore.cpuInv tame h).tlbShutdown
  | hang t => exact .next (SameCore.cpuInv tame h).hangUp
  | refuse r => exact .refused r
  | fault f => exact .fault f

/-- A write of a CP0 register changes no state but CP0 and the timer request (45:R383). -/
theorem State.cp0Write_frame (rd : Reg) (w : DWord) (s : State) :
    s.cp0Write rd w = { s with cp0 := (s.cp0Write rd w).cp0, timerPending := (s.cp0Write rd w).timerPending } := by
  unfold State.cp0Write
  split <;> rfl

/-- A write of Wired sets Random to 31, and no other write changes either (10:R33, R37). -/
theorem State.cp0Write_random (rd : Reg) (w : DWord) (s : State) :
    ((s.cp0Write rd w).cp0.random = s.cp0.random ∧ (s.cp0Write rd w).cp0.wired = s.cp0.wired)
      ∨ (s.cp0Write rd w).cp0.random = 31 := by
  unfold State.cp0Write
  split
  case h_6 => exact .inr rfl
  all_goals exact .inl ⟨rfl, rfl⟩

/-- Only a write of Status changes Status. -/
theorem State.cp0Write_status {rd : Reg} (h : rd ≠ 12) (w : DWord) (s : State) :
    (s.cp0Write rd w).cp0.status = s.cp0.status := by
  unfold State.cp0Write
  split
  case h_10 hrd => exact absurd (BitVec.eq_of_toNat_eq hrd) h
  all_goals rfl

/-- A CP0 write that leaves a defined mode keeps the invariant: the mode is all it can break. -/
theorem State.CpuInv.cp0Write {s : State} (h : s.CpuInv) (rd : Reg) (w : DWord) (hm : (s.cp0Write rd w).mode ≠ .undefined) :
    (s.cp0Write rd w).CpuInv where
  randomInRange := by
    rcases State.cp0Write_random rd w s with ⟨hrandom, hwired⟩ | hrandom
    · rw [hrandom, hwired]; exact h.randomInRange
    · rw [hrandom]; bv_omega
  legalMasks := by rw [State.cp0Write_frame]; exact h.legalMasks
  definedMode := hm
  sequential := by rw [State.cp0Write_frame]; exact h.sequential

theorem execMtc0_leavesCpuInv {s : State} (h : s.CpuInv) (rt rd : Reg) : LeavesCpuInv (execMtc0 rt rd s) := by
  refine .requiresCp0 h (.namesCp0Register fun t ht => ?_)
  obtain ⟨rfl, hm⟩ := State.inDefinedMode_eq_next ht
  exact h.advance.cp0Write _ _ hm

theorem execDmtc0_leavesCpuInv {s : State} (h : s.CpuInv) (rt rd : Reg) : LeavesCpuInv (execDmtc0 rt rd s) := by
  refine .requiresCp0 h (.requires64 h (.namesCp0Register (.ite (fun hwide => .next ?_) (.refused _))))
  have hrd : rd ≠ 12 := by rintro rfl; revert hwide; decide
  refine h.advance.cp0Write _ _ ?_
  unfold State.mode
  rw [State.cp0Write_status hrd]
  exact h.definedMode

/-- A TLB write stores a legal page size only (10:R36, U3). -/
theorem State.tlbWrite_leavesCpuInv {s : State} (h : s.CpuInv) (i : BitVec 5) : LeavesCpuInv (s.tlbWrite i) := by
  refine .ite (fun hmask => .next ⟨h.advance.randomInRange, fun j => ?_, h.definedMode, fun _ => rfl⟩) (.refused _)
  show legalMask ((s.tlb.set i.toNat s.cp0.storedEntry i.isLt)[j.val]).mask = true
  rw [Vector.getElem_set]
  split
  · exact hmask
  · exact h.legalMasks j

/-- TLBP completes or shuts the TLB down (45:R368). -/
theorem execTlbp_leavesCpuInv {s : State} (h : s.CpuInv) : LeavesCpuInv (execTlbp s) := by
  refine .requiresCp0 h ?_
  split
  · exact .next (h.advance.of_view_eq rfl)
  · exact .next (h.advance.of_view_eq rfl)
  · exact .next h.tlbShutdown

/-- ERET goes to a sequential state whose mode is defined (45:R369, U17). -/
theorem execEret_leavesCpuInv {s : State} (h : s.CpuInv) : LeavesCpuInv (execEret s) := by
  refine .requiresCp0 h (.ite (fun _ => .refused _) fun t ht => ?_)
  obtain ⟨rfl, hm⟩ := State.inDefinedMode_eq_next ht
  unfold State.returnFromException at hm ⊢
  by_cases herl : s.cp0.status.erl = true
  · rw [if_pos herl] at hm ⊢
    exact ⟨wired_le_nextRandom .., h.legalMasks, hm, fun _ => rfl⟩
  · rw [if_neg herl] at hm ⊢
    exact ⟨wired_le_nextRandom .., h.legalMasks, hm, fun _ => rfl⟩

/-- A CACHE operation keeps the invariant where its own part does. -/
theorem State.cacheOperation_leavesCpuInv {s : State} (h : s.CpuInv) (base : Reg) (offset : BitVec 16)
    {op : DWord → PAddr → State → Access Unit} (hop : ∀ va pa, ∃ t, op va pa s = .ok () t ∧ t.CpuInv) :
    LeavesCpuInv (s.cacheOperation base offset op) := by
  refine .requiresCp0 h (.finish h (State.translate_tame ..) fun tr t ht => ?_)
  obtain rfl := State.translate_state ht
  obtain ⟨u, hu, hinv⟩ := hop (t.effectiveAddress base offset) tr.pa
  rw [hu]
  exact .next hinv.advance

/-- Every instruction keeps the processor's invariant. -/
theorem exec_leavesCpuInv {s : State} (h : s.CpuInv) (i : Instr) : LeavesCpuInv (exec i s) := by
  cases hc : Instr.isControl i with
  | false =>
    intro t ht
    rcases (exec_ends i s hc).cases t ht with trapped | completed
    · exact trapped.cpuInv h
    · exact completed.cpuInv h
  | true =>
    cases i with
    | mtc0 rt rd => exact execMtc0_leavesCpuInv h rt rd
    | dmtc0 rt rd => exact execDmtc0_leavesCpuInv h rt rd
    | tlbr => exact .requiresCp0 h (.next (h.advance.of_view_eq rfl))
    | tlbwi => exact .requiresCp0 h (State.tlbWrite_leavesCpuInv h _)
    | tlbwr => exact .requiresCp0 h (State.tlbWrite_leavesCpuInv h _)
    | tlbp => exact execTlbp_leavesCpuInv h
    | eret => exact execEret_leavesCpuInv h
    | cacheIndexLoadTagI base offset =>
      exact State.cacheOperation_leavesCpuInv h base offset fun _ _ => ⟨_, rfl, h.of_view_eq rfl⟩
    | cacheIndexLoadTagD base offset =>
      exact State.cacheOperation_leavesCpuInv h base offset fun _ _ => ⟨_, rfl, h.of_view_eq rfl⟩
    | standby => exact .requiresCp0 h (.next (h.advance.of_view_eq rfl))
    | suspend => exact .requiresCp0 h (.next (h.advance.of_view_eq rfl))
    | hibernate => exact .requiresCp0 h (.next (h.advance.of_view_eq rfl))
    | _ => exact Bool.noConfusion hc

/-- A fetched word is an instruction, or raises an exception, or is refused (30:R170, R171). -/
theorem State.execWord_leavesCpuInv {s : State} (h : s.CpuInv) (w : Word32) : LeavesCpuInv (s.execWord w) := by
  unfold State.execWord
  split
  · exact exec_leavesCpuInv h _
  · refine .ite (fun _ => .raise h _) ?_
    split
    · exact .raise h _
    all_goals exact .refused _

theorem State.settleHazard_leavesCpuInv {o : Host.Outcome State Fault Refusal} (h : LeavesCpuInv o) (s : State) :
    LeavesCpuInv (s.settleHazard o) := by
  intro t ht
  obtain ⟨u, hu, rfl | ⟨-, rfl⟩⟩ := State.settleHazard_eq_next ht
  · exact h t hu
  · exact (h u hu).forget ..

theorem State.runInstruction_leavesCpuInv {s : State} (h : s.CpuInv) : LeavesCpuInv s.runInstruction := by
  have tame := State.fetch_tame s.pc s
  unfold State.runInstruction
  cases hf : s.fetch s.pc <;> rw [hf] at tame
  case ok w t => exact State.settleHazard_leavesCpuInv (State.execWord_leavesCpuInv (SameCore.cpuInv tame h) w) s
  case raise e t => exact .raise (SameCore.cpuInv tame h) e
  case shutdown t => exact .next (SameCore.cpuInv tame h).tlbShutdown
  case hang t => exact .next (SameCore.cpuInv tame h).hangUp
  case refuse r => exact .refused r
  case fault f => exact .fault f

theorem State.ordinaryStep_leavesCpuInv {s : State} (h : s.CpuInv) : LeavesCpuInv s.ordinaryStep := by
  refine .ite (fun _ => ?_) (State.runInstruction_leavesCpuInv h)
  split
  case h_1 t ht => exact .ite (fun _ => .next (State.runInstruction_leavesCpuInv h t ht)) (.raise h _)
  case h_2 => exact .raise h _

end Sys2Proof.Machine
end

section
/-! PROOFS. The order of a step (60:R401), the resets and NMI (60:R411 to R413), and what a soft reset finds of the instruction
at pc (U21, log 47): O12. -/

namespace Sys2Proof.Machine

/-- A cold reset goes first in every power mode (60:R401, R450). -/
theorem State.cycle_of_coldReset {s : State} (h : s.coldReset = true) : s.cycle = .next s.takeColdReset := by
  unfold State.cycle
  split
  · exact if_pos h
  · exact congrArg _ (if_pos h)
  · exact congrArg _ (if_pos h)
  · exact congrArg _ (if_pos h)

section

variable {s : State} (hmode : s.powerMode = .fullspeed) (hcold : s.coldReset = false)
include hmode hcold

/-- Then comes a soft reset. -/
theorem State.cycle_of_softReset (h : s.softReset = true) : s.cycle = .next s.abortInstruction.takeSoftReset := by
  simp only [State.cycle, hmode, State.fullspeedStep, hcold, h, Bool.false_eq_true, if_false, if_true]

variable (hsoft : s.softReset = false)
include hsoft

/-- A machine that is stuck takes resets only (20:R154, 10:R72; log 28, log 54). -/
theorem State.cycle_of_hung (h : s.hung = true) : s.cycle = .next s := by
  simp only [State.cycle, hmode, State.fullspeedStep, hcold, hsoft, h, Bool.false_eq_true, if_false, if_true]

/-- An NMI goes before an instruction. -/
theorem State.cycle_of_nmi (hhung : s.hung = false) (h : s.nmiPending = true) : s.cycle = .next s.takeNmi := by
  simp only [State.cycle, hmode, State.fullspeedStep, hcold, hsoft, hhung, h, Bool.false_eq_true, if_false, if_true]

/-- With TS = 1 no instruction runs (10:R72, U4). -/
theorem State.cycle_of_shutdown (hnmi : s.nmiPending = false) (h : s.cp0.status.ts = true) : s.cycle = .next s := by
  simp only [State.cycle, hmode, State.fullspeedStep, hcold, hsoft, hnmi, h, Bool.false_eq_true, if_false, if_true, ite_self]

end

/-- A multiply or divide that is aborted leaves HI, LO and its cycles changed, nothing else. -/
theorem State.abortMultiply_frame (s : State) :
    s.abortMultiply = { s with
      hi := s.abortMultiply.hi, lo := s.abortMultiply.lo, mdBusy := s.abortMultiply.mdBusy } := by
  unfold State.abortMultiply
  split <;> rfl

/-- What soft reset and NMI write, in one record (60:R412, R413). -/
theorem State.warmReset_eq (s : State) :
    s.warmReset = { s with
      pc := resetVector, npc := resetVector + 4, ds := false
      hi := s.abortMultiply.hi, lo := s.abortMultiply.lo, mdBusy := s.abortMultiply.mdBusy
      cp0 := { s.cp0 with
        errorEpc := s.restartAddress
        status := { s.cp0.status with ts := false, sr := true, bev := true, erl := true } }
      powerMode := .fullspeed
      hiLo := HiLoWindow.empty, hiLoPrev := HiLoWindow.empty, hiLoSaved := s.saveWindow, trapped := true } := by
  unfold State.warmReset
  rw [State.abortMultiply_frame]
  rfl

/-- Where a reset or NMI leads, in the terms of O12 (60:R404, R411 to R413). -/
def EntersResetVector (s t : State) : Prop :=
  t.pc = 0xFFFFFFFFBFC00000 ∧ t.npc = t.pc + 4 ∧ t.ds = false ∧ t.powerMode = .fullspeed ∧ t.mode = .kernel
    ∧ t.cp0.status.erl = true ∧ t.cp0.status.bev = true ∧ t.cp0.status.ts = false
    ∧ t.cp0.errorEpc = (if s.ds then s.pc - 4 else s.pc)

/-- What a soft reset or NMI retains, in the terms of O12 (60:R412, R413; HI and LO by log 26). -/
def RetainsOnWarmReset (s t : State) : Prop :=
  t.cp0 = { s.cp0 with
      errorEpc := t.cp0.errorEpc
      status := { s.cp0.status with ts := false, sr := true, bev := true, erl := true } }
    ∧ t.gpr = s.gpr ∧ t.tlb = s.tlb ∧ t.icache = s.icache ∧ t.dcache = s.dcache ∧ t.mem = s.mem
    ∧ t.timerPending = s.timerPending ∧ t.busParityOff = s.busParityOff
    ∧ (s.mdBusy = 0 → t.hi = s.hi ∧ t.lo = s.lo)

theorem State.takeColdReset_enters (s : State) : EntersResetVector s s.takeColdReset :=
  ⟨rfl, rfl, rfl, rfl, rfl, rfl, rfl, rfl, rfl⟩

theorem State.warmReset_enters (s : State) : EntersResetVector s s.warmReset := by
  rw [State.warmReset_eq]
  exact ⟨rfl, rfl, rfl, rfl, Status.mode_of_erl rfl, rfl, rfl, rfl, rfl⟩

theorem State.warmReset_retains (s : State) : RetainsOnWarmReset s s.warmReset := by
  rw [State.warmReset_eq]
  refine ⟨rfl, rfl, rfl, rfl, rfl, rfl, rfl, rfl, fun h => ?_⟩
  have same : s.abortMultiply = s := if_pos h
  have hhi : s.abortMultiply.hi = s.hi := by rw [same]
  have hlo : s.abortMultiply.lo = s.lo := by rw [same]
  exact ⟨hhi, hlo⟩

/-- The state `u` that a soft reset finds of `s` while `i` runs, which would end in `o` (60:R412, U21, log 47): what is open. -/
structure AbortedDuring (i : Instr) (o : Host.Outcome State Fault Refusal) (s u : State) : Prop where
  frame : u = { s with gpr := u.gpr, hi := u.hi, lo := u.lo, mem := u.mem }
  destination : ∀ r, u.reg r ≠ s.reg r → multiCycleDestination i = some r
  hiLo : u.hi ≠ s.hi ∨ u.lo ≠ s.lo → usesMultiplier i = true
  memory : s.mem.wf = true → ∀ a, u.mem.read a = s.mem.read a ∨ ∃ v, o = .next v ∧ u.mem.read a = v.mem.read a

theorem AbortedDuring.refl (i : Instr) (o : Host.Outcome State Fault Refusal) (s : State) : AbortedDuring i o s s :=
  ⟨rfl, fun _ h => absurd rfl h, fun h => absurd h (by simp), fun _ _ => .inl rfl⟩

/-- Each byte of an aborted store has arrived or not. -/
theorem AbortedDuring.abortedStore (i : Instr) (s v : State) : AbortedDuring i (.next v) s (s.abortedStore v) where
  frame := rfl
  destination := fun _ h => absurd rfl h
  hiLo := fun h => absurd h (by simp [State.abortedStore])
  memory := fun hwf a => ((Memory.receive_spec v.mem _ hwf).2 a).imp_right fun e => ⟨v, rfl, e⟩

theorem AbortedDuring.forget {i : Instr} {o : Host.Outcome State Fault Refusal} {s u : State} (h : AbortedDuring i o s u)
    (kind : Reg → OpenValue) : AbortedDuring i o s (u.forget (multiCycleDestination i).toList kind) := by
  obtain ⟨frame, others⟩ := State.forget_spec (multiCycleDestination i).toList kind u
  refine ⟨by rw [frame, h.frame], fun r hr => ?_, fun g => h.hiLo ?_, fun hwf a => ?_⟩
  · by_cases hmem : r ∈ (multiCycleDestination i).toList
    · exact Option.mem_toList.1 hmem
    · exact h.destination r (others r hmem ▸ hr)
  · rwa [frame] at g
  · rw [frame]; exact h.memory hwf a

theorem AbortedDuring.openHiLo {i : Instr} {o : Host.Outcome State Fault Refusal} {s u : State} (h : AbortedDuring i o s u)
    (hi : usesMultiplier i = true) (x y : DWord) : AbortedDuring i o s { u with hi := x, lo := y } where
  frame := by
    conv_lhs => rw [h.frame]
  destination := h.destination
  hiLo := fun _ => hi
  memory := h.memory

/-- The destination and the multiplier's registers are open on top of what memory has received. -/
theorem AbortedDuring.openResults {i : Instr} {o : Host.Outcome State Fault Refusal} {s u : State} (h : AbortedDuring i o s u)
    (kind : Reg → OpenValue) (x y : DWord) :
    AbortedDuring i o s
      (if usesMultiplier i then { u.forget (multiCycleDestination i).toList kind with hi := x, lo := y }
        else u.forget (multiCycleDestination i).toList kind) := by
  split
  · exact (h.forget kind).openHiLo ‹_› x y
  · exact h.forget kind

theorem State.abortedBy_abortedDuring (i : Instr) (o : Host.Outcome State Fault Refusal) (s : State) :
    AbortedDuring i o s (s.abortedBy i o) := by
  cases o with
  | next v => exact (AbortedDuring.abortedStore i s v).openResults ..
  | fault f => exact (AbortedDuring.refl i _ s).openResults ..
  | refused r => exact (AbortedDuring.refl i _ s).openResults ..

/-- A soft reset finds the state as it is, or the instruction at pc begun (log 47). -/
theorem State.abortInstruction_cases (s : State) :
    s.abortInstruction = s
      ∨ ∃ w t i, s.fetch s.pc = .ok w t ∧ decode w = .ok i ∧ AbortedDuring i (exec i t) s s.abortInstruction := by
  unfold State.abortInstruction
  split
  · exact .inl rfl
  · split
    · split
      · exact .inr ⟨_, _, _, ‹_›, ‹_›, State.abortedBy_abortedDuring ..⟩
      · exact .inl rfl
    · exact .inl rfl

theorem State.abortInstruction_frame (s : State) :
    s.abortInstruction = { s with
      gpr := s.abortInstruction.gpr, hi := s.abortInstruction.hi
      lo := s.abortInstruction.lo, mem := s.abortInstruction.mem } := by
  rcases State.abortInstruction_cases s with same | ⟨_, _, _, -, -, aborted⟩
  · rw [same]
  · exact aborted.frame

/-- Settles O12: the order of the step, then what each reset leaves. -/
theorem resetsAndNmi : Obligations.ResetsAndNmi := by
  intro s begun
  refine ⟨State.cycle_of_coldReset, fun hmode hcold hsoft => ?_, fun hmode hcold hsoft hhung hnmi =>
    State.cycle_of_nmi hmode hcold hsoft hhung hnmi, ?_, ⟨rfl, rfl, rfl, rfl, rfl⟩, ⟨rfl, rfl, ?_⟩, ?_⟩
  · refine ⟨s.abortInstruction, State.cycle_of_softReset hmode hcold hsoft, State.abortInstruction_frame s, ?_⟩
    rcases State.abortInstruction_cases s with same | ⟨w, t, i, hfetch, hdecode, aborted⟩
    · rw [same]
      exact ⟨fun _ h => absurd rfl h, fun h => absurd h (by simp), fun _ _ => .inl rfl⟩
    · have hbegun : begun i t := ⟨w, hfetch, hdecode⟩
      exact ⟨fun r hr => ⟨i, t, hbegun, aborted.destination r hr⟩, fun h => ⟨i, t, hbegun, aborted.hiLo h⟩,
        fun hwf a => (aborted.memory hwf a).imp_right fun ⟨v, hv, e⟩ => ⟨i, t, v, hbegun, hv, e⟩⟩
  · rintro t (rfl | rfl | rfl)
    · exact State.takeColdReset_enters s
    · exact State.warmReset_enters s
    · exact State.warmReset_enters s
  · rw [State.takeNmi, State.warmReset_eq]
  · rintro t (rfl | rfl)
    · exact State.warmReset_retains s
    · exact State.warmReset_retains s

end Sys2Proof.Machine
end

section
/-! PROOFS. The processor's invariant through resets, the power modes and the gap between steps (60:R401, R450): O9. -/

namespace Sys2Proof.Machine

/-- A cold reset gives the values of `State.reset` to all the invariant speaks of (10:R80; log 43). -/
theorem State.takeColdReset_cpuInv (s : State) : s.takeColdReset.CpuInv where
  randomInRange := by
    show (0 : BitVec 5) ≤ 31
    decide
  legalMasks := State.reset_legalMasks
  definedMode := nofun
  sequential := fun _ => rfl

theorem State.CpuInv.warmReset {s : State} (h : s.CpuInv) : s.warmReset.CpuInv := by
  obtain ⟨-, hnpc, -, -, hkernel, -⟩ := State.warmReset_enters s
  refine ⟨?_, ?_, by rw [hkernel]; nofun, fun _ => hnpc⟩
  · rw [State.warmReset_eq]; exact h.randomInRange
  · rw [State.warmReset_eq]; exact h.legalMasks

theorem State.CpuInv.takeSoftReset {s : State} (h : s.CpuInv) : s.takeSoftReset.CpuInv := h.warmReset.of_view_eq rfl
theorem State.CpuInv.takeNmi {s : State} (h : s.CpuInv) : s.takeNmi.CpuInv := h.warmReset.of_view_eq rfl

theorem State.CpuInv.abortInstruction {s : State} (h : s.CpuInv) : s.abortInstruction.CpuInv :=
  h.of_view_eq (by rw [State.abortInstruction_frame]; rfl)

theorem State.CpuInv.sleepStep {s : State} (h : s.CpuInv) : s.sleepStep.CpuInv := by
  unfold State.sleepStep
  split
  · exact s.takeColdReset_cpuInv
  · split
    · exact h.takeSoftReset
    · split
      · exact h.takeNmi
      · split
        · exact h.of_view_eq rfl
        · exact h

theorem State.CpuInv.hibernateStep {s : State} (h : s.CpuInv) : s.hibernateStep.CpuInv := by
  unfold State.hibernateStep
  split
  · exact s.takeColdReset_cpuInv
  · exact h

theorem State.fullspeedStep_leavesCpuInv {s : State} (h : s.CpuInv) : LeavesCpuInv s.fullspeedStep :=
  .ite (fun _ => .next s.takeColdReset_cpuInv) <| .ite (fun _ => .next h.abortInstruction.takeSoftReset) <|
    .ite (fun _ => .next h) <| .ite (fun _ => .next h.takeNmi) <| .ite (fun _ => .next h) <|
    .ite (fun _ => .refused _) (State.ordinaryStep_leavesCpuInv h)

theorem State.cycle_leavesCpuInv {s : State} (h : s.CpuInv) : LeavesCpuInv s.cycle := by
  unfold State.cycle
  split
  · exact State.fullspeedStep_leavesCpuInv h
  · exact .next h.sleepStep
  · exact .next h.sleepStep
  · exact .next h.hibernateStep

/-- No act of the environment reaches what the invariant speaks of (60:R401). -/
theorem State.applyEvent_view (s : State) (e : EnvEvent) : (s.applyEvent e).invariantView = s.invariantView := by
  cases e with
  | externalWrite data =>
    show (s.externalWrite data).invariantView = _
    unfold State.externalWrite
    split <;> rfl
  | nmiPin | softResetPin =>
    unfold State.applyEvent
    dsimp only
    split <;> rfl
  | _ => rfl

theorem State.applyEvents_view (es : List EnvEvent) :
    ∀ s : State, (es.foldl State.applyEvent s).invariantView = s.invariantView := by
  induction es with
  | nil => exact fun _ => rfl
  | cons e es ih => exact fun s => (ih _).trans (s.applyEvent_view e)

theorem State.advanceCount_view (s : State) : s.advanceCount.invariantView = s.invariantView := by
  unfold State.advanceCount
  split <;> rfl

theorem State.betweenSteps_view (s : State) : s.betweenSteps.invariantView = s.invariantView :=
  (State.applyEvents_view (s.advanceCount.inputs.headD []) s.advanceCount).trans s.advanceCount_view

/-- Settles O9: the step without the gap keeps the invariant, and the gap does not touch what it speaks of. -/
theorem stepKeepsProcessorInvariant : Obligations.StepKeepsProcessorInvariant := by
  intro s t h hstep
  have cycle := State.cycle_leavesCpuInv h
  unfold step at hstep
  cases hc : s.cycle with
  | next u =>
    rw [hc] at hstep
    cases hstep
    exact (cycle u hc).of_view_eq u.betweenSteps_view
  | fault f => rw [hc] at hstep; cases hstep
  | refused r => rw [hc] at hstep; cases hstep

end Sys2Proof.Machine
end

section
/-! PROOFS. TLB shutdown by any reference (10:R72, U4; log 28) and the read never answered (20:R154; log 54): O15. -/

namespace Sys2Proof.Machine

/-- Two TLB entries match a mapped address, in the terms of O15 (10:R72). -/
def State.Ambiguous (va : DWord) (s : State) : Prop :=
  (s.is64bitAddr = true ∨ isWord va = true) ∧ s.segment va = some .mapped
    ∧ ∃ i j ms, s.tlbMatches (va.extractLsb' 62 2) (va.extractLsb' 11 29) = i :: j :: ms

/-- The translation of an ambiguous address shuts the TLB down, whatever the access. -/
theorem State.translate_of_ambiguous {s : State} {va : DWord} (hmode : s.mode ≠ .undefined) (h : s.Ambiguous va)
    (k : AccessKind) : s.translate va k = .shutdown s := by
  obtain ⟨hcanonical, hsegment, i, j, ms, hmatches⟩ := h
  have hword : ¬(s.is64bitAddr = false ∧ isWord va = false) := by
    rintro ⟨h64, hw⟩
    rcases hcanonical with e | e
    · exact Bool.noConfusion (h64.symm.trans e)
    · exact Bool.noConfusion (hw.symm.trans e)
  unfold State.translate
  rw [if_neg hmode, if_neg hword, hsegment]
  show s.translateMapped va k = _
  unfold State.translateMapped
  rw [hmatches]

/-- The loads that get as far as translating, each with the alignment and the mode it asks for (20:R113, 40:R220). -/
theorem State.mem_loadForms {s : State} {base rt : Reg} {offset : BitVec 16} {i : Instr} :
    i ∈ s.loadForms base rt offset ↔
      (i = .lb base rt offset ∨ i = .lbu base rt offset ∨ i = .lwl base rt offset ∨ i = .lwr base rt offset)
      ∨ ((s.effectiveAddress base offset).toNat % 2 = 0 ∧ (i = .lh base rt offset ∨ i = .lhu base rt offset))
      ∨ ((s.effectiveAddress base offset).toNat % 4 = 0 ∧ i = .lw base rt offset)
      ∨ (s.is64bitOps = true ∧ ((i = .ldl base rt offset ∨ i = .ldr base rt offset)
        ∨ ((s.effectiveAddress base offset).toNat % 4 = 0 ∧ i = .lwu base rt offset)
        ∨ ((s.effectiveAddress base offset).toNat % 8 = 0 ∧ i = .ld base rt offset))) := by
  simp only [State.loadForms, State.loadParts, List.map_append, apply_ite (List.map Prod.fst), List.map_cons, List.map_nil,
    List.mem_append, List.mem_ite_nil_right, List.mem_cons, List.not_mem_nil, or_false, or_assoc]

/-- The stores that get as far as translating. -/
theorem State.mem_storeForms {s : State} {base rt : Reg} {offset : BitVec 16} {i : Instr} :
    i ∈ s.storeForms base rt offset ↔
      (i = .sb base rt offset ∨ i = .swl base rt offset ∨ i = .swr base rt offset)
      ∨ ((s.effectiveAddress base offset).toNat % 2 = 0 ∧ i = .sh base rt offset)
      ∨ ((s.effectiveAddress base offset).toNat % 4 = 0 ∧ i = .sw base rt offset)
      ∨ (s.is64bitOps = true ∧ ((i = .sdl base rt offset ∨ i = .sdr base rt offset)
        ∨ ((s.effectiveAddress base offset).toNat % 8 = 0 ∧ i = .sd base rt offset))) := by
  simp only [State.storeForms, List.mem_append, List.mem_ite_nil_right, List.mem_cons, List.not_mem_nil, or_false, or_assoc]

section

variable {s : State} {base : Reg} {offset : BitVec 16}
variable (h : ∀ k, s.translate (s.effectiveAddress base offset) k = .shutdown s)
include h

/-- Where the translation of its address shuts the TLB down, so does a load, once its alignment is right. -/
theorem State.execLoad_shutdown {n : Nat} (aligned : (s.effectiveAddress base offset).toNat % n = 0) (rt : Reg)
    (f : DWord → DWord) : s.execLoad base rt offset n f = .next s.tlbShutdown := by
  unfold State.execLoad State.load State.loadPart
  rw [if_neg (not_not.2 aligned), h]
  rfl

theorem State.execStore_shutdown {n : Nat} (aligned : (s.effectiveAddress base offset).toNat % n = 0) (rt : Reg) :
    s.execStore base rt offset n = .next s.tlbShutdown := by
  unfold State.execStore State.store State.storePart
  rw [if_neg (not_not.2 aligned), h]
  rfl

theorem State.execLoadPart_shutdown (rt : Reg) (part : Bool → DWord → Part) (merge : Nat → DWord → DWord → DWord) :
    s.execLoadPart base rt offset part merge = .next s.tlbShutdown := by
  unfold State.execLoadPart State.loadPart
  dsimp only
  rw [h]
  rfl

theorem State.execStorePart_shutdown (rt : Reg) (part : Bool → DWord → Part) (value : Nat → DWord → DWord) :
    s.execStorePart base rt offset part value = .next s.tlbShutdown := by
  unfold State.execStorePart State.storePart
  dsimp only
  rw [h]
  rfl

theorem State.cacheOperation_shutdown (usable : s.cp0Usable = true) (op : DWord → PAddr → State → Access Unit) :
    s.cacheOperation base offset op = .next s.tlbShutdown := by
  unfold State.cacheOperation State.requiresCp0
  dsimp only
  rw [if_pos usable, h]
  rfl

/-- Every load that gets as far as translating shuts the TLB down. -/
theorem exec_loadForms_shutdown {rt : Reg} {i : Instr} (hi : i ∈ s.loadForms base rt offset) :
    exec i s = .next s.tlbShutdown := by
  rcases State.mem_loadForms.1 hi with (rfl | rfl | rfl | rfl) | ⟨h2, rfl | rfl⟩ | ⟨h4, rfl⟩
    | ⟨h64, (rfl | rfl) | ⟨h4, rfl⟩ | ⟨h8, rfl⟩⟩
  · exact State.execLoad_shutdown h (Nat.mod_one _) rt _
  · exact State.execLoad_shutdown h (Nat.mod_one _) rt _
  · exact State.execLoadPart_shutdown h rt _ _
  · exact State.execLoadPart_shutdown h rt _ _
  · exact State.execLoad_shutdown h h2 rt _
  · exact State.execLoad_shutdown h h2 rt _
  · exact State.execLoad_shutdown h h4 rt _
  · exact (if_pos h64).trans (State.execLoadPart_shutdown h rt _ _)
  · exact (if_pos h64).trans (State.execLoadPart_shutdown h rt _ _)
  · exact (if_pos h64).trans (State.execLoad_shutdown h h4 rt _)
  · exact (if_pos h64).trans (State.execLoad_shutdown h h8 rt _)

/-- Every store that gets as far as translating shuts the TLB down. -/
theorem exec_storeForms_shutdown {rt : Reg} {i : Instr} (hi : i ∈ s.storeForms base rt offset) :
    exec i s = .next s.tlbShutdown := by
  rcases State.mem_storeForms.1 hi with (rfl | rfl | rfl) | ⟨h2, rfl⟩ | ⟨h4, rfl⟩ | ⟨h64, (rfl | rfl) | ⟨h8, rfl⟩⟩
  · exact State.execStore_shutdown h (Nat.mod_one _) rt
  · exact State.execStorePart_shutdown h rt _ _
  · exact State.execStorePart_shutdown h rt _ _
  · exact State.execStore_shutdown h h2 rt
  · exact State.execStore_shutdown h h4 rt
  · exact (if_pos h64).trans (State.execStorePart_shutdown h rt _ _)
  · exact (if_pos h64).trans (State.execStorePart_shutdown h rt _ _)
  · exact (if_pos h64).trans (State.execStore_shutdown h h8 rt)

/-- Every CACHE operation shuts the TLB down where CP0 is usable. -/
theorem exec_cacheForms_shutdown (usable : s.cp0Usable = true) {i : Instr} (hi : i ∈ cacheForms base offset) :
    exec i s = .next s.tlbShutdown := by
  simp only [cacheForms, List.mem_cons, List.not_mem_nil, or_false] at hi
  rcases hi with rfl | rfl | rfl | rfl | rfl | rfl | rfl | rfl | rfl | rfl | rfl | rfl | rfl
  all_goals exact State.cacheOperation_shutdown h usable _

end

/-- A fetch whose translation shuts the TLB down. -/
theorem State.runInstruction_shutdown {s : State} (aligned : s.pc.toNat % 4 = 0) (h : s.translate s.pc .fetch = .shutdown s) :
    s.runInstruction = .next s.tlbShutdown := by
  have fetched : s.fetch s.pc = .shutdown s := by
    unfold State.fetch
    rw [if_neg (not_not.2 aligned), h]
    rfl
  unfold State.runInstruction
  rw [fetched]

/-- A read that names a word never answered hangs (20:R154). -/
theorem State.busRead_hang {s : State} {words : WordAddr → Bool} {w : WordAddr} (hw : w ∈ s.noResponse) (h : words w = true)
    (e : Exc) : s.busRead words e = .hang s :=
  if_pos (List.any_eq_true.2 ⟨w, hw, h⟩)

/-- An uncached byte load whose word is never answered hangs (20:R154, log 54). -/
theorem State.execLoad_byte_hang {s : State} {base rt : Reg} {offset : BitVec 16} {tr : Translation}
    (reaches : s.Reaches (s.effectiveAddress base offset) .load tr) (uncached : tr.cached = false)
    (unanswered : ∀ a, a ∈ s.laneAddresses tr.pa { start := s.effectiveAddress base offset, count := 1 } →
      a.extractLsb' 2 30 ∈ s.noResponse) (f : DWord → DWord) :
    s.execLoad base rt offset 1 f = .next s.hangUp := by
  obtain ⟨a, ha⟩ : ∃ a, s.laneAddresses tr.pa { start := s.effectiveAddress base offset, count := 1 } = [a] := ⟨_, rfl⟩
  have hword : wordOf a ∈ s.noResponse := unanswered a (ha ▸ List.mem_singleton_self a)
  have read : s.physRead tr.pa tr.cached [a] = .hang s := by
    rw [uncached]
    show (s.busRead (fun w => [a].any fun b => wordOf b == w) .dbe).andThen _ = _
    rw [State.busRead_hang hword (by simp)]
    rfl
  unfold State.execLoad State.load State.loadPart
  rw [if_neg (not_not.2 (Nat.mod_one _)), reaches.translated]
  simp only [Access.andThen, State.watched, reaches.unwatched, ha, read, Bool.false_eq_true, if_false]
  rfl

/-- An uncached fetch whose word is never answered hangs (20:R154, log 54). -/
theorem State.runInstruction_hang {s : State} {pa : PAddr} (aligned : s.pc.toNat % 4 = 0)
    (translated : s.translate s.pc .fetch = .ok { pa := pa, cached := false } s) (unanswered : wordOf pa ∈ s.noResponse) :
    s.runInstruction = .next s.hangUp := by
  have fetched : s.fetch s.pc = .hang s := by
    unfold State.fetch
    rw [if_neg (not_not.2 aligned), translated]
    show (s.busRead (fun w => w == wordOf pa) .ibe).andThen _ = _
    rw [State.busRead_hang unanswered (by simp)]
    rfl
  unfold State.runInstruction
  rw [fetched]

/-- Settles O15: what shuts the TLB down, what hangs, and that only resets end either. -/
theorem stuckMachine : Obligations.StuckMachine := by
  intro s shut ambiguous
  refine ⟨fun hmode => ⟨fun va k h => State.translate_of_ambiguous hmode h k, fun base rt offset h => ?_,
      fun aligned h => State.runInstruction_shutdown aligned (State.translate_of_ambiguous hmode h _)⟩,
    fun hmode hts hcold hsoft hnmi => State.cycle_of_shutdown hmode hcold hsoft hnmi hts, rfl, rfl, rfl, rfl, ?_, ?_,
    fun hmode hhung hcold hsoft => State.cycle_of_hung hmode hcold hsoft hhung,
    fun hmode hcold hsoft => State.cycle_of_hung (s := shut) hmode hcold hsoft rfl, rfl, rfl⟩
  · have translated : ∀ k, s.translate (s.effectiveAddress base offset) k = .shutdown s :=
      State.translate_of_ambiguous hmode h
    refine ⟨fun i hi => ?_, fun usable i hi => exec_cacheForms_shutdown translated usable hi⟩
    rcases List.mem_append.1 hi with hload | hstore
    · exact exec_loadForms_shutdown translated hload
    · exact exec_storeForms_shutdown translated hstore
  · exact fun base rt offset tr reaches uncached unanswered =>
      ⟨State.execLoad_byte_hang reaches uncached unanswered _, State.execLoad_byte_hang reaches uncached unanswered _⟩
  · exact fun pa aligned translated unanswered => State.runInstruction_hang aligned translated unanswered

end Sys2Proof.Machine
end

section
/-! PROOFS. The canonical form of external memory (20:R100) through every instruction, reset, power mode and gap: O8. -/

namespace Sys2Proof.Machine

/-- An outcome that, if it is a next state, has external memory in its canonical form. -/
def LeavesCanonical (o : Host.Outcome State Fault Refusal) : Prop := ∀ t, o = .next t → t.mem.wf = true

theorem LeavesCanonical.next {t : State} (h : t.mem.wf = true) : LeavesCanonical (.next t) := fun _ e => by cases e; exact h
theorem LeavesCanonical.refused (r : Refusal) : LeavesCanonical (.refused r) := fun _ e => nomatch e

theorem State.takeException_mem (e : Exc) (s : State) : (s.takeException e).mem = s.mem := by
  cases e <;> rfl

theorem LeavesCanonical.raise {s : State} (h : s.mem.wf = true) (e : Exc) : LeavesCanonical (s.raise e) :=
  .next (by rw [State.takeException_mem]; exact h)

theorem LeavesCanonical.ite {c : Prop} [Decidable c] {o p : Host.Outcome State Fault Refusal} (h : LeavesCanonical o)
    (g : LeavesCanonical p) : LeavesCanonical (if c then o else p) := by
  split <;> assumption

theorem LeavesCanonical.requiresCp0 {s : State} {k : Host.Outcome State Fault Refusal} (h : s.mem.wf = true)
    (g : LeavesCanonical k) : LeavesCanonical (s.requiresCp0 k) := .ite g (.raise h _)

theorem LeavesCanonical.inDefinedMode {s : State} (h : s.mem.wf = true) : LeavesCanonical s.inDefinedMode :=
  .ite (.refused _) (.next h)

theorem Trapped.canonical {s t : State} (h : Trapped s t) (hs : s.mem.wf = true) : t.mem.wf = true := by
  obtain ⟨u, hu, ⟨e, rfl⟩ | rfl | rfl⟩ := h
  · rw [State.takeException_mem]; exact hu.wf hs
  · exact hu.wf hs
  · exact hu.wf hs

theorem Ends.canonical {s : State} {o : Host.Outcome State Fault Refusal} (h : Ends s o) (hs : s.mem.wf = true) :
    LeavesCanonical o := fun t ht => (h.cases t ht).elim (·.canonical hs) (·.wf hs)

theorem State.cp0Write_mem (rd : Reg) (w : DWord) (s : State) : (s.cp0Write rd w).mem = s.mem := by
  rw [State.cp0Write_frame]

theorem State.returnFromException_mem (s : State) : s.returnFromException.mem = s.mem := by
  unfold State.returnFromException
  split <;> rfl

/-- Where a part of an instruction ends early, memory is canonical; where it completes, the rest decides. -/
theorem LeavesCanonical.finish {α : Type} {s : State} {m : Access α} {k : α → State → Access Unit} (hs : s.mem.wf = true)
    (tame : m.Tame s) (g : ∀ a t, m = .ok a t → LeavesCanonical (k a t).finish) : LeavesCanonical (m.andThen k).finish := by
  cases m with
  | ok a t => exact g a t rfl
  | raise e t => exact .raise (SameCore.wf tame hs) e
  | shutdown t => exact .next (SameCore.wf (t := t) tame hs)
  | hang t => exact .next (SameCore.wf (t := t) tame hs)
  | refuse r => exact .refused r
  | fault f => exact fun _ e => nomatch e

/-- A CACHE operation whose own part leaves memory alone, as the loads of a tag do (45:R373). -/
theorem State.cacheOperation_canonical {s : State} (hs : s.mem.wf = true) (base : Reg) (offset : BitVec 16)
    {op : DWord → PAddr → State → Access Unit} (hop : ∀ va pa, ∃ t, op va pa s = .ok () t ∧ t.mem = s.mem) :
    LeavesCanonical (s.cacheOperation base offset op) := by
  refine .requiresCp0 hs (.finish hs (State.translate_tame ..) fun tr t ht => ?_)
  obtain rfl := State.translate_state ht
  obtain ⟨u, hu, hmem⟩ := hop (t.effectiveAddress base offset) tr.pa
  rw [hu]
  exact .next (hmem ▸ hs)

/-- The TLB instructions leave memory alone (45:R366, R368). -/
theorem State.tlbWrite_canonical {s : State} (hs : s.mem.wf = true) (i : BitVec 5) : LeavesCanonical (s.tlbWrite i) :=
  .ite (.next hs) (.refused _)

theorem execTlbp_canonical {s : State} (hs : s.mem.wf = true) : LeavesCanonical (execTlbp s) := by
  refine .requiresCp0 hs ?_
  split
  all_goals exact .next hs

/-- Every instruction keeps memory canonical: those that change no control state end tamely, the others do not write memory. -/
theorem exec_canonical {s : State} (hs : s.mem.wf = true) (i : Instr) : LeavesCanonical (exec i s) := by
  cases hc : Instr.isControl i with
  | false => exact (exec_ends i s hc).canonical hs
  | true =>
    cases i with
    | mtc0 rt rd =>
      exact .requiresCp0 hs (.ite (.refused _) (.inDefinedMode (by rw [State.cp0Write_mem]; exact hs)))
    | dmtc0 rt rd =>
      exact .requiresCp0 hs (.ite (.ite (.refused _) (.ite (.next (by rw [State.cp0Write_mem]; exact hs)) (.refused _)))
        (.ite (.refused _) (.raise hs _)))
    | tlbr => exact .requiresCp0 hs (.next hs)
    | tlbwi => exact .requiresCp0 hs (State.tlbWrite_canonical hs _)
    | tlbwr => exact .requiresCp0 hs (State.tlbWrite_canonical hs _)
    | tlbp => exact execTlbp_canonical hs
    | eret => exact .requiresCp0 hs (.ite (.refused _) (.inDefinedMode (by rw [State.returnFromException_mem]; exact hs)))
    | cacheIndexLoadTagI base offset => exact State.cacheOperation_canonical hs base offset fun _ _ => ⟨_, rfl, rfl⟩
    | cacheIndexLoadTagD base offset => exact State.cacheOperation_canonical hs base offset fun _ _ => ⟨_, rfl, rfl⟩
    | standby => exact .requiresCp0 hs (.next hs)
    | suspend => exact .requiresCp0 hs (.next hs)
    | hibernate => exact .requiresCp0 hs (.next hs)
    | _ => exact Bool.noConfusion hc

/-- A fetched word is an instruction, or raises an exception, or is refused (30:R170, R171). -/
theorem State.execWord_canonical {s : State} (hs : s.mem.wf = true) (w : Word32) : LeavesCanonical (s.execWord w) := by
  unfold State.execWord
  split
  · exact exec_canonical hs _
  · refine .ite (.raise hs _) ?_
    split
    · exact .raise hs _
    all_goals exact .refused _

theorem State.forget_mem (rs : List Reg) (kind : Reg → OpenValue) (s : State) : (s.forget rs kind).mem = s.mem := by
  rw [(State.forget_spec rs kind s).1]

theorem State.settleHazard_canonical {o : Host.Outcome State Fault Refusal} (h : LeavesCanonical o) (s : State) :
    LeavesCanonical (s.settleHazard o) := by
  intro t ht
  obtain ⟨u, hu, rfl | ⟨-, rfl⟩⟩ := State.settleHazard_eq_next ht
  · exact h t hu
  · rw [State.forget_mem]; exact h u hu

theorem State.runInstruction_canonical {s : State} (hs : s.mem.wf = true) : LeavesCanonical s.runInstruction := by
  have tame := State.fetch_tame s.pc s
  unfold State.runInstruction
  cases hf : s.fetch s.pc <;> rw [hf] at tame
  case ok w t => exact State.settleHazard_canonical (State.execWord_canonical (SameCore.wf tame hs) w) s
  case raise e t => exact .raise (SameCore.wf tame hs) e
  case shutdown t => exact .next (SameCore.wf (t := t) tame hs)
  case hang t => exact .next (SameCore.wf (t := t) tame hs)
  case refuse r => exact .refused r
  case fault f => exact fun _ e => nomatch e

theorem State.ordinaryStep_canonical {s : State} (hs : s.mem.wf = true) : LeavesCanonical s.ordinaryStep := by
  refine .ite ?_ (State.runInstruction_canonical hs)
  split
  case h_1 t ht => exact .ite (.next (State.runInstruction_canonical hs t ht)) (.raise hs _)
  case h_2 => exact .raise hs _

/-- Whatever part of an aborted store has arrived, memory is canonical (60:R412, log 47). -/
theorem State.abortedBy_canonical {s : State} (hs : s.mem.wf = true) (i : Instr) (o : Host.Outcome State Fault Refusal) :
    (s.abortedBy i o).mem.wf = true := by
  have received : ∀ v : State, (s.abortedStore v).mem.wf = true := fun v => (Memory.receive_spec v.mem _ hs).1
  unfold State.abortedBy
  dsimp only
  split
  all_goals
    show (State.forget ..).mem.wf = true
    rw [State.forget_mem]
    cases o with
    | next v => exact received v
    | fault | refused => exact hs

theorem State.abortInstruction_canonical {s : State} (hs : s.mem.wf = true) : s.abortInstruction.mem.wf = true := by
  unfold State.abortInstruction
  split
  · exact hs
  · split
    · split
      · exact State.abortedBy_canonical hs _ _
      · exact hs
    · exact hs

/-- Resets and NMI leave memory alone (60:R411 to R413). -/
theorem State.warmReset_mem (s : State) : s.warmReset.mem = s.mem := by
  rw [State.warmReset_eq]

theorem State.sleepStep_mem (s : State) : s.sleepStep.mem = s.mem := by
  unfold State.sleepStep
  split
  · rfl
  · split
    · exact s.warmReset_mem
    · split
      · exact s.warmReset_mem
      · split <;> rfl

theorem State.hibernateStep_mem (s : State) : s.hibernateStep.mem = s.mem := by
  unfold State.hibernateStep
  split <;> rfl

theorem State.cycle_canonical {s : State} (hs : s.mem.wf = true) : LeavesCanonical s.cycle := by
  unfold State.cycle
  split
  case h_1 =>
    exact .ite (.next hs) <| .ite (.next (s.abortInstruction.warmReset_mem ▸ State.abortInstruction_canonical hs)) <|
      .ite (.next hs) <| .ite (.next (s.warmReset_mem ▸ hs)) <| .ite (.next hs) <|
      .ite (.refused _) (State.ordinaryStep_canonical hs)
  case h_4 => exact .next (s.hibernateStep_mem ▸ hs)
  all_goals exact .next (s.sleepStep_mem ▸ hs)

/-- Of the acts of the environment only a write of the external agent reaches memory, a byte at a time (20:R131). -/
theorem State.applyEvent_canonical {s : State} (hs : s.mem.wf = true) (e : EnvEvent) : (s.applyEvent e).mem.wf = true := by
  cases e with
  | agentWrite addr byte => exact Memory.wf_write addr byte hs
  | externalWrite data =>
    show (s.externalWrite data).mem.wf = true
    unfold State.externalWrite
    split <;> exact hs
  | nmiPin | softResetPin =>
    unfold State.applyEvent
    dsimp only
    split <;> exact hs
  | _ => exact hs

theorem State.applyEvents_canonical (es : List EnvEvent) :
    ∀ {s : State}, s.mem.wf = true → (es.foldl State.applyEvent s).mem.wf = true := by
  induction es with
  | nil => exact fun hs => hs
  | cons e es ih => exact fun hs => ih (State.applyEvent_canonical hs e)

theorem State.advanceCount_mem (s : State) : s.advanceCount.mem = s.mem := by
  unfold State.advanceCount
  split <;> rfl

theorem State.betweenSteps_canonical {s : State} (hs : s.mem.wf = true) : s.betweenSteps.mem.wf = true :=
  State.applyEvents_canonical (s.advanceCount.inputs.headD []) (s.advanceCount_mem ▸ hs)

/-- Settles O8: the step without the gap keeps memory canonical, and so does each act of the environment in the gap. -/
theorem stepKeepsMemoryCanonical : Obligations.StepKeepsMemoryCanonical := by
  intro s t hs hstep
  have cycle := State.cycle_canonical hs
  unfold step at hstep
  cases hc : s.cycle with
  | next u =>
    rw [hc] at hstep
    cases hstep
    exact State.betweenSteps_canonical (cycle u hc)
  | fault f => rw [hc] at hstep; cases hstep
  | refused r => rw [hc] at hstep; cases hstep

end Sys2Proof.Machine
end

section
/-! PROOFS. The segments of the modes (20:R102 to R108): the map of each mode by its ranges, then what translation makes of it:
O49. -/

namespace Sys2Proof.Machine

/-- A closed range, by numbers. -/
theorem inRange_iff {lo hi va : DWord} : inRange lo hi va = true ↔ lo.toNat ≤ va.toNat ∧ va.toNat ≤ hi.toNat := by
  simp [inRange, BitVec.le_def]

/-- The sign-extended words are the lowest and the highest 2G addresses (00:R7). -/
theorem isWord_iff {va : DWord} : isWord va = true ↔ va.toNat < 2 ^ 31 ∨ 2 ^ 64 - 2 ^ 31 ≤ va.toNat := by
  have low : (low32 va).toNat = va.toNat % 2 ^ 32 := by simp [low32]
  have top : (low32 va).msb = decide (2 ^ 31 ≤ va.toNat % 2 ^ 32) := by rw [BitVec.msb_eq_decide, low]
  have extended : (sext32 (low32 va)).toNat = va.toNat % 2 ^ 32 + if 2 ^ 31 ≤ va.toNat % 2 ^ 32 then 2 ^ 64 - 2 ^ 32 else 0 := by
    rw [sext32, BitVec.toNat_signExtend, BitVec.toNat_setWidth, top, low]
    simp
    omega
  rw [isWord, beq_iff_eq, ← BitVec.toNat_inj, extended]
  have := va.isLt
  split <;> omega

section

variable {s : State} {va : DWord} {k : AccessKind} (hmode : s.mode ≠ .undefined)
include hmode

/-- Outside the segments of the mode there is an address error (20:R103; log 6). -/
theorem State.translate_of_no_segment (h : s.segment va = none) : s.translate va k = .raise (.addressError va k) s := by
  unfold State.translate
  rw [if_neg hmode, h]
  exact ite_self _

variable (hcanonical : s.is64bitAddr = true ∨ isWord va = true)
include hcanonical

omit hmode in
theorem State.not_noncanonical : ¬(s.is64bitAddr = false ∧ isWord va = false) := by
  rcases hcanonical with e | e <;> simp [e]

theorem State.translate_of_mapped (h : s.segment va = some .mapped) : s.translate va k = s.translateMapped va k := by
  unfold State.translate
  rw [if_neg hmode, if_neg (State.not_noncanonical hcanonical), h]

theorem State.translate_of_unmapped {pa : PAddr} {cached : Bool} (h : s.segment va = some (.unmapped pa cached)) :
    s.translate va k = .ok { pa := pa, cached := cached } s := by
  unfold State.translate
  rw [if_neg hmode, if_neg (State.not_noncanonical hcanonical), h]

end

/-- The physical address in kseg0 and kseg1 is the offset in the segment (20:R107). -/
theorem kseg01Address_toNat (va : DWord) : (kseg01Address va).toNat = va.toNat % 2 ^ 29 := by
  simp only [kseg01Address, BitVec.toNat_setWidth, BitVec.extractLsb'_toNat, Nat.shiftRight_zero]
  omega

/-! The user and the supervisor map (20:R104, R105). -/

theorem userSegment_eq (ux : Bool) (va : DWord) :
    userSegment ux va = if va.toNat ≤ (if ux then 0xFFFFFFFFFF else 0x7FFFFFFF) then some .mapped else none := by
  unfold userSegment
  cases ux <;> simp [inRange_iff]

/-- The addresses the supervisor map holds (20:R105). -/
def InSupervisorMap (sx : Bool) (a : Nat) : Prop :=
  a ≤ (if sx then 0xFFFFFFFFFF else 0x7FFFFFFF) ∨ (0xFFFFFFFFC0000000 ≤ a ∧ a ≤ 0xFFFFFFFFDFFFFFFF)
    ∨ (sx = true ∧ 0x4000000000000000 ≤ a ∧ a ≤ 0x400000FFFFFFFFFF)

/-- The supervisor map holds what one of its three ranges does. -/
theorem supervisorSegment_cases (sx : Bool) (va : DWord) :
    (InSupervisorMap sx va.toNat ∧ supervisorSegment sx va = some .mapped)
      ∨ (¬InSupervisorMap sx va.toNat ∧ supervisorSegment sx va = none) := by
  have low : inRange 0 (if sx then 0xFFFFFFFFFF else 0x7FFFFFFF) va = true
      ↔ va.toNat ≤ if sx then 0xFFFFFFFFFF else 0x7FFFFFFF := by cases sx <;> simp [inRange_iff]
  have sseg : inRange 0xFFFFFFFFC0000000 0xFFFFFFFFDFFFFFFF va = true
      ↔ 0xFFFFFFFFC0000000 ≤ va.toNat ∧ va.toNat ≤ 0xFFFFFFFFDFFFFFFF := by simp [inRange_iff]
  have xsseg : (sx && inRange 0x4000000000000000 0x400000FFFFFFFFFF va) = true
      ↔ sx = true ∧ 0x4000000000000000 ≤ va.toNat ∧ va.toNat ≤ 0x400000FFFFFFFFFF := by simp [inRange_iff]
  unfold supervisorSegment InSupervisorMap
  rw [← low, ← sseg, ← xsseg]
  generalize inRange 0 _ va = inLow, inRange 0xFFFFFFFFC0000000 _ va = inSseg, (sx && _) = inXsseg
  revert inLow inSseg inXsseg
  decide

theorem supervisorSegment_mapped {sx : Bool} {va : DWord} (h : InSupervisorMap sx va.toNat) :
    supervisorSegment sx va = some .mapped :=
  (supervisorSegment_cases sx va).elim And.right fun g => absurd h g.1

theorem supervisorSegment_none {sx : Bool} {va : DWord} (h : ¬InSupervisorMap sx va.toNat) :
    supervisorSegment sx va = none :=
  (supervisorSegment_cases sx va).elim (fun g => absurd g.1 h) And.right

/-! The kernel map (20:R106 to R108). -/

section

variable {kx erl : Bool} {k0 : BitVec 3} {va : DWord}

/-- The lowest segment: kuseg or xkuseg. -/
theorem kernelSegment_user (h : va.toNat ≤ if kx then 0xFFFFFFFFFF else 0x7FFFFFFF) :
    kernelSegment kx erl k0 va = some (kernelUserSegment erl va) := by
  unfold kernelSegment
  rw [if_pos]
  cases kx <;> simpa [inRange_iff] using h

/-- Above it the compatibility segments go before the extended ones. -/
theorem kernelSegment_above (h : (if kx then 0xFFFFFFFFFF else 0x7FFFFFFF) < va.toNat) :
    kernelSegment kx erl k0 va = (compatibilitySegment k0 va).or (if kx then extendedKernelSegment va else none) := by
  have outside : ¬inRange 0 (if kx then 0xFFFFFFFFFF else 0x7FFFFFFF) va = true := by
    cases kx <;> simpa [inRange_iff] using h
  unfold kernelSegment
  rw [if_neg outside]
  cases compatibilitySegment k0 va <;> rfl

theorem kernelUserSegment_window (h : va.toNat ≤ 0x7FFFFFFF) :
    kernelUserSegment true va = .unmapped ((va.extractLsb' 0 31).setWidth 32) false :=
  if_pos (by simpa [inRange_iff] using h)

theorem kernelUserSegment_mapped (h : erl = false ∨ 0x7FFFFFFF < va.toNat) : kernelUserSegment erl va = .mapped := by
  refine if_neg fun hw => ?_
  rw [Bool.and_eq_true, inRange_iff] at hw
  rcases h with rfl | above
  · exact Bool.noConfusion hw.1
  · exact absurd hw.2.2 (by simpa using above)

theorem compatibilitySegment_kseg0 (lo : 0xFFFFFFFF80000000 ≤ va.toNat) (hi : va.toNat ≤ 0xFFFFFFFF9FFFFFFF) :
    compatibilitySegment k0 va = some (.unmapped (kseg01Address va) (k0 != 2)) :=
  if_pos (by simpa [inRange_iff] using ⟨lo, hi⟩)

theorem compatibilitySegment_kseg1 (lo : 0xFFFFFFFFA0000000 ≤ va.toNat) (hi : va.toNat ≤ 0xFFFFFFFFBFFFFFFF) :
    compatibilitySegment k0 va = some (.unmapped (kseg01Address va) false) := by
  unfold compatibilitySegment
  rw [if_neg (by simp [inRange_iff]; omega), if_pos (by simpa [inRange_iff] using ⟨lo, hi⟩)]

theorem compatibilitySegment_mapped (lo : 0xFFFFFFFFC0000000 ≤ va.toNat) : compatibilitySegment k0 va = some .mapped := by
  have := va.isLt
  unfold compatibilitySegment
  rw [if_neg (by simp [inRange_iff]; omega), if_neg (by simp [inRange_iff]; omega), if_pos]
  exact inRange_iff.2 ⟨lo, Nat.le_of_lt_succ va.isLt⟩

theorem compatibilitySegment_none (h : va.toNat < 0xFFFFFFFF80000000) : compatibilitySegment k0 va = none := by
  unfold compatibilitySegment
  rw [if_neg (by simp [inRange_iff]; omega), if_neg (by simp [inRange_iff]; omega), if_neg (by simp [inRange_iff]; omega)]

theorem extendedKernelSegment_xksseg (lo : 0x4000000000000000 ≤ va.toNat) (hi : va.toNat ≤ 0x400000FFFFFFFFFF) :
    extendedKernelSegment va = some .mapped :=
  if_pos (by simpa [inRange_iff] using ⟨lo, hi⟩)

theorem extendedKernelSegment_xkphys (h : va.toNat / 2 ^ 62 = 2) :
    extendedKernelSegment va =
      if va.extractLsb' 32 27 = 0 then some (.unmapped (va.extractLsb' 0 32) (va.extractLsb' 59 3 != 2)) else none := by
  unfold extendedKernelSegment
  rw [if_neg (by simp [inRange_iff]; omega), if_pos (by simp [inRange_iff]; omega)]

theorem extendedKernelSegment_xkseg (lo : 0xC000000000000000 ≤ va.toNat) (hi : va.toNat ≤ 0xC00000FF7FFFFFFF) :
    extendedKernelSegment va = some .mapped := by
  unfold extendedKernelSegment
  rw [if_neg (by simp [inRange_iff]; omega), if_neg (by simp [inRange_iff]; omega), if_pos (by simpa [inRange_iff] using ⟨lo, hi⟩)]

theorem extendedKernelSegment_none
    (h : va.toNat < 0x4000000000000000 ∨ (0x400000FFFFFFFFFF < va.toNat ∧ va.toNat < 0x8000000000000000)
      ∨ 0xC00000FF7FFFFFFF < va.toNat) : extendedKernelSegment va = none := by
  unfold extendedKernelSegment
  rw [if_neg (by simp [inRange_iff]; omega), if_neg (by simp [inRange_iff]; omega), if_neg (by simp [inRange_iff]; omega)]

end

/-! What translation makes of the maps. -/

section

variable {s : State} {va : DWord} {k : AccessKind}

theorem State.user_mapped (h : s.mode = .user) (low : va.toNat ≤ if s.cp0.status.ux then 0xFFFFFFFFFF else 0x7FFFFFFF) :
    s.translate va k = s.translateMapped va k := by
  refine State.translate_of_mapped (by rw [h]; nofun) ?_ ?_
  · simp only [State.is64bitAddr, h]
    cases hux : s.cp0.status.ux
    · rw [hux] at low
      exact .inr (isWord_iff.2 (.inl (Nat.lt_succ_of_le low)))
    · exact .inl rfl
  · simp only [State.segment, h]
    rw [userSegment_eq, if_pos low]

theorem State.user_outside (h : s.mode = .user) (above : (if s.cp0.status.ux then 0xFFFFFFFFFF else 0x7FFFFFFF) < va.toNat) :
    s.translate va k = .raise (.addressError va k) s := by
  refine State.translate_of_no_segment (by rw [h]; nofun) ?_
  simp only [State.segment, h]
  rw [userSegment_eq, if_neg (Nat.not_le.2 above)]

theorem State.supervisor_mapped (h : s.mode = .supervisor) (inside : InSupervisorMap s.cp0.status.sx va.toNat) :
    s.translate va k = s.translateMapped va k := by
  refine State.translate_of_mapped (by rw [h]; nofun) ?_ ?_
  · simp only [State.is64bitAddr, h]
    cases hsx : s.cp0.status.sx
    · refine .inr (isWord_iff.2 ?_)
      rcases inside with low | sseg | ⟨sx, -⟩
      · simp only [hsx, Bool.false_eq_true, if_false] at low
        omega
      · omega
      · exact Bool.noConfusion (hsx.symm.trans sx)
    · exact .inl rfl
  · simp only [State.segment, h]
    exact supervisorSegment_mapped inside

theorem State.supervisor_outside (h : s.mode = .supervisor) (outside : ¬InSupervisorMap s.cp0.status.sx va.toNat) :
    s.translate va k = .raise (.addressError va k) s := by
  refine State.translate_of_no_segment (by rw [h]; nofun) ?_
  simp only [State.segment, h]
  exact supervisorSegment_none outside

end

section

variable {s : State} {va : DWord} {k : AccessKind} (h : s.mode = .kernel)
include h

theorem State.kernel_segment : s.segment va = kernelSegment s.cp0.status.kx s.cp0.status.erl s.cp0.config.k0 va := by
  simp only [State.segment, h]

/-- In kernel mode an address has a segment of 64-bit space only with KX = 1, else one of the words (20:R102). -/
theorem State.kernel_canonical (hword : s.cp0.status.kx = true ∨ va.toNat ≤ 0x7FFFFFFF ∨ 0xFFFFFFFF80000000 ≤ va.toNat) :
    s.is64bitAddr = true ∨ isWord va = true := by
  simp only [State.is64bitAddr, h]
  exact hword.imp_right fun g => isWord_iff.2 (by omega)

theorem State.kernel_unmapped {pa : PAddr} {cached : Bool}
    (hword : s.cp0.status.kx = true ∨ va.toNat ≤ 0x7FFFFFFF ∨ 0xFFFFFFFF80000000 ≤ va.toNat)
    (hseg : kernelSegment s.cp0.status.kx s.cp0.status.erl s.cp0.config.k0 va = some (.unmapped pa cached)) :
    s.translate va k = .ok { pa := pa, cached := cached } s :=
  State.translate_of_unmapped (by rw [h]; nofun) (State.kernel_canonical h hword) ((State.kernel_segment h).trans hseg)

theorem State.kernel_mapped (hword : s.cp0.status.kx = true ∨ va.toNat ≤ 0x7FFFFFFF ∨ 0xFFFFFFFF80000000 ≤ va.toNat)
    (hseg : kernelSegment s.cp0.status.kx s.cp0.status.erl s.cp0.config.k0 va = some .mapped) :
    s.translate va k = s.translateMapped va k :=
  State.translate_of_mapped (by rw [h]; nofun) (State.kernel_canonical h hword) ((State.kernel_segment h).trans hseg)

theorem State.kernel_outside (hseg : kernelSegment s.cp0.status.kx s.cp0.status.erl s.cp0.config.k0 va = none) :
    s.translate va k = .raise (.addressError va k) s :=
  State.translate_of_no_segment (by rw [h]; nofun) ((State.kernel_segment h).trans hseg)

end

section

variable {kx erl : Bool} {k0 : BitVec 3} {va : DWord}

/-- The compatibility segments stand above the user segment of both maps. -/
theorem kernelSegment_compatibility {seg : Segment} (h : 0xFFFFFFFF80000000 ≤ va.toNat)
    (hseg : compatibilitySegment k0 va = some seg) : kernelSegment kx erl k0 va = some seg := by
  rw [kernelSegment_above (by split <;> omega), hseg]
  rfl

/-- With KX = 1 the extended segments stand between the user and the compatibility segments. -/
theorem kernelSegment_extended (lo : 0xFFFFFFFFFF < va.toNat) (hi : va.toNat < 0xFFFFFFFF80000000) :
    kernelSegment true erl k0 va = extendedKernelSegment va := by
  rw [kernelSegment_above (by simpa using lo), compatibilitySegment_none hi]
  rfl

theorem kernelSegment_none (lo : 0x7FFFFFFF < va.toNat) (hi : va.toNat < 0xFFFFFFFF80000000) :
    kernelSegment false erl k0 va = none := by
  rw [kernelSegment_above (by simpa using lo), compatibilitySegment_none hi]
  rfl

end

/-- The extended segments of the kernel, in the terms of O49 (20:R106, R107). -/
theorem State.kernel_extended {s : State} {va : DWord} {k : AccessKind} (h : s.mode = .kernel) (hkx : s.cp0.status.kx = true) :
    (va.toNat / 2 ^ 62 = 2 → va.toNat / 2 ^ 32 % 2 ^ 27 = 0 →
      ∃ pa : PAddr, s.translate va k = .ok { pa := pa, cached := va.toNat / 2 ^ 59 % 8 != 2 } s
        ∧ pa.toNat = va.toNat % 2 ^ 32)
    ∧ (va.toNat / 2 ^ 62 = 2 → va.toNat / 2 ^ 32 % 2 ^ 27 ≠ 0 → s.translate va k = .raise (.addressError va k) s)
    ∧ (0x4000000000000000 ≤ va.toNat → va.toNat ≤ 0x400000FFFFFFFFFF → s.translate va k = s.translateMapped va k)
    ∧ (0xC000000000000000 ≤ va.toNat → va.toNat ≤ 0xC00000FF7FFFFFFF → s.translate va k = s.translateMapped va k)
    ∧ (0xFFFFFFFFFF < va.toNat → va.toNat < 0x4000000000000000 → s.translate va k = .raise (.addressError va k) s)
    ∧ (0x400000FFFFFFFFFF < va.toNat → va.toNat < 0x8000000000000000 → s.translate va k = .raise (.addressError va k) s)
    ∧ (0xC00000FF7FFFFFFF < va.toNat → va.toNat < 0xFFFFFFFF80000000 → s.translate va k = .raise (.addressError va k) s) := by
  have extended (lo : 0xFFFFFFFFFF < va.toNat) (hi : va.toNat < 0xFFFFFFFF80000000) :
      kernelSegment s.cp0.status.kx s.cp0.status.erl s.cp0.config.k0 va = extendedKernelSegment va := by
    rw [hkx]; exact kernelSegment_extended lo hi
  have window : va.extractLsb' 32 27 = 0 ↔ va.toNat / 2 ^ 32 % 2 ^ 27 = 0 := by
    rw [← BitVec.toNat_inj, BitVec.extractLsb'_toNat, Nat.shiftRight_eq_div_pow]; rfl
  have algorithm : (va.extractLsb' 59 3 != 2) = (va.toNat / 2 ^ 59 % 8 != 2) := by
    rw [Bool.eq_iff_iff, bne_iff_ne, bne_iff_ne, ne_eq, ← BitVec.toNat_inj, BitVec.extractLsb'_toNat,
      Nat.shiftRight_eq_div_pow]
    rfl
  refine ⟨fun phys low => ⟨va.extractLsb' 0 32, ?_, by simp⟩, fun phys high => ?_, fun lo hi => ?_, fun lo hi => ?_,
    fun lo hi => ?_, fun lo hi => ?_, fun lo hi => ?_⟩
  · rw [← algorithm]
    refine State.kernel_unmapped h (.inl hkx) ?_
    rw [extended (by omega) (by omega), extendedKernelSegment_xkphys phys, if_pos (window.2 low)]
  · refine State.kernel_outside h ?_
    rw [extended (by omega) (by omega), extendedKernelSegment_xkphys phys, if_neg (mt window.1 high)]
  · refine State.kernel_mapped h (.inl hkx) ?_
    rw [extended (by omega) (by omega), extendedKernelSegment_xksseg lo hi]
  · refine State.kernel_mapped h (.inl hkx) ?_
    rw [extended (by omega) (by omega), extendedKernelSegment_xkseg lo hi]
  all_goals
    refine State.kernel_outside h ?_
    rw [extended (by omega) (by omega), extendedKernelSegment_none (by omega)]

/-- Settles O49: the map of each mode, range by range. -/
theorem segments : Obligations.Segments := by
  intro va k s a mapped outside
  have hlt := va.isLt
  refine ⟨fun h => ⟨fun lo hi => ⟨kseg01Address va, ?_, ?_⟩, fun lo hi => ⟨kseg01Address va, ?_, ?_⟩, fun lo => ?_,
      fun erl hi => ⟨(va.extractLsb' 0 31).setWidth 32, ?_, ?_⟩, fun erl hi => ?_, State.kernel_extended h, fun kx lo hi => ?_⟩,
    fun h => ⟨State.user_mapped h, State.user_outside h⟩, fun h => ⟨State.supervisor_mapped h, fun low sseg xsseg => ?_⟩⟩
  · exact State.kernel_unmapped h (.inr (.inr lo)) (kernelSegment_compatibility lo (compatibilitySegment_kseg0 lo hi))
  · rw [kseg01Address_toNat]; omega
  · exact State.kernel_unmapped h (by omega) (kernelSegment_compatibility (by omega) (compatibilitySegment_kseg1 lo hi))
  · rw [kseg01Address_toNat]; omega
  · exact State.kernel_mapped h (by omega) (kernelSegment_compatibility (by omega) (compatibilitySegment_mapped lo))
  · refine State.kernel_unmapped h (.inr (.inl hi)) ?_
    rw [kernelSegment_user (by split <;> omega), erl, kernelUserSegment_window hi]
  · simp only [BitVec.toNat_setWidth, BitVec.extractLsb'_toNat, Nat.shiftRight_zero]
    omega
  · refine State.kernel_mapped h ?_ ?_
    · cases hkx : s.cp0.status.kx with
      | true => exact .inl rfl
      | false => rw [hkx] at hi; exact .inr (.inl hi)
    · rw [kernelSegment_user hi, kernelUserSegment_mapped erl]
  · refine State.kernel_outside h ?_
    rw [kx, kernelSegment_none lo hi]
  · exact State.supervisor_outside h (by rintro (g | g | g) <;> contradiction)

end Sys2Proof.Machine
end

section
/-! PROOFS. Translation through the TLB (20:R115 to R117), and the exceptions it raises in every access (20:R118, 60:R416 to
R418): O48. -/

namespace Sys2Proof.Machine

theorem Access.andThen_assoc {α β γ : Type} (m : Access α) (k : α → State → Access β) (l : β → State → Access γ) :
    (m.andThen k).andThen l = m.andThen fun a t => (k a t).andThen l := by
  cases m <;> rfl

/-- An outcome is that of an access which translates an address first and then does something with the result. -/
def Translates (va : DWord) (kind : AccessKind) (s : State) (o : Host.Outcome State Fault Refusal) : Prop :=
  ∃ k : Translation → State → Access Unit, o = ((s.translate va kind).andThen k).finish

/-- Such an access takes the exception its translation raises (20:R118). -/
theorem Translates.raise {va : DWord} {kind : AccessKind} {s : State} {o : Host.Outcome State Fault Refusal} {e : Exc}
    (h : Translates va kind s o) (raised : s.translate va kind = .raise e s) : o = .next (s.takeException e) := by
  obtain ⟨k, rfl⟩ := h
  rw [raised]
  rfl

theorem Translates.requires64 {va : DWord} {kind : AccessKind} {s : State} {o : Host.Outcome State Fault Refusal}
    (h : Translates va kind s o) (h64 : s.is64bitOps = true) : Translates va kind s (s.requires64 o) := by
  rwa [State.requires64, if_pos h64]

section

variable {s : State} {base rt : Reg} {offset : BitVec 16}

theorem State.execLoad_translates {n : Nat} (aligned : (s.effectiveAddress base offset).toNat % n = 0) (f : DWord → DWord) :
    Translates (s.effectiveAddress base offset) .load s (s.execLoad base rt offset n f) := by
  unfold State.execLoad State.load State.loadPart
  rw [if_neg (not_not.2 aligned), Access.andThen_assoc]
  exact ⟨_, rfl⟩

theorem State.execLoadPart_translates (part : Bool → DWord → Part) (merge : Nat → DWord → DWord → DWord) :
    Translates (s.effectiveAddress base offset) .load s (s.execLoadPart base rt offset part merge) := by
  unfold State.execLoadPart State.loadPart
  dsimp only
  rw [Access.andThen_assoc]
  exact ⟨_, rfl⟩

theorem State.execStore_translates {n : Nat} (aligned : (s.effectiveAddress base offset).toNat % n = 0) :
    Translates (s.effectiveAddress base offset) .store s (s.execStore base rt offset n) := by
  unfold State.execStore State.store State.storePart
  rw [if_neg (not_not.2 aligned), Access.andThen_assoc]
  exact ⟨_, rfl⟩

theorem State.execStorePart_translates (part : Bool → DWord → Part) (value : Nat → DWord → DWord) :
    Translates (s.effectiveAddress base offset) .store s (s.execStorePart base rt offset part value) := by
  unfold State.execStorePart State.storePart
  dsimp only
  rw [Access.andThen_assoc]
  exact ⟨_, rfl⟩

theorem State.cacheOperation_translates (usable : s.cp0Usable = true) (op : DWord → PAddr → State → Access Unit) :
    Translates (s.effectiveAddress base offset) .load s (s.cacheOperation base offset op) := ⟨_, if_pos usable⟩

theorem exec_loadForms_translates {i : Instr} (hi : i ∈ s.loadForms base rt offset) :
    Translates (s.effectiveAddress base offset) .load s (exec i s) := by
  rcases State.mem_loadForms.1 hi with (rfl | rfl | rfl | rfl) | ⟨h2, rfl | rfl⟩ | ⟨h4, rfl⟩
    | ⟨h64, (rfl | rfl) | ⟨h4, rfl⟩ | ⟨h8, rfl⟩⟩
  · exact State.execLoad_translates (Nat.mod_one _) _
  · exact State.execLoad_translates (Nat.mod_one _) _
  · exact State.execLoadPart_translates ..
  · exact State.execLoadPart_translates ..
  · exact State.execLoad_translates h2 _
  · exact State.execLoad_translates h2 _
  · exact State.execLoad_translates h4 _
  · exact (State.execLoadPart_translates ..).requires64 h64
  · exact (State.execLoadPart_translates ..).requires64 h64
  · exact (State.execLoad_translates h4 _).requires64 h64
  · exact (State.execLoad_translates h8 _).requires64 h64

theorem exec_storeForms_translates {i : Instr} (hi : i ∈ s.storeForms base rt offset) :
    Translates (s.effectiveAddress base offset) .store s (exec i s) := by
  rcases State.mem_storeForms.1 hi with (rfl | rfl | rfl) | ⟨h2, rfl⟩ | ⟨h4, rfl⟩ | ⟨h64, (rfl | rfl) | ⟨h8, rfl⟩⟩
  · exact State.execStore_translates (Nat.mod_one _)
  · exact State.execStorePart_translates ..
  · exact State.execStorePart_translates ..
  · exact State.execStore_translates h2
  · exact State.execStore_translates h4
  · exact (State.execStorePart_translates ..).requires64 h64
  · exact (State.execStorePart_translates ..).requires64 h64
  · exact (State.execStore_translates h8).requires64 h64

theorem exec_cacheForms_translates (usable : s.cp0Usable = true) {i : Instr} (hi : i ∈ cacheForms base offset) :
    Translates (s.effectiveAddress base offset) .load s (exec i s) := by
  simp only [cacheForms, List.mem_cons, List.not_mem_nil, or_false] at hi
  rcases hi with rfl | rfl | rfl | rfl | rfl | rfl | rfl | rfl | rfl | rfl | rfl | rfl | rfl
  all_goals exact State.cacheOperation_translates usable _

/-- The fetch takes the exception its translation raises. -/
theorem State.runInstruction_translation_raise {e : Exc} (aligned : s.pc.toNat % 4 = 0)
    (raised : s.translate s.pc .fetch = .raise e s) : s.runInstruction = .next (s.takeException e) := by
  have fetched : s.fetch s.pc = .raise e s := by
    unfold State.fetch
    rw [if_neg (not_not.2 aligned), raised]
    rfl
  unfold State.runInstruction
  rw [fetched]
  rfl

end

/-! The TLB entry that translates, and the physical address. -/

/-- The entry `e` translates `va`, in the terms of O48 (20:R116). -/
def TlbEntry.Hits (e : TlbEntry) (va : DWord) (asid : BitVec 8) : Prop :=
  e.r = va.extractLsb' 62 2 ∧ e.vpn2 &&& ~~~(e.mask.setWidth 29) = va.extractLsb' 11 29 &&& ~~~(e.mask.setWidth 29)
    ∧ (e.g = true ∨ e.asid = asid)

theorem TlbEntry.matchesKey_iff {e : TlbEntry} {va : DWord} {asid : BitVec 8} :
    e.matchesKey (va.extractLsb' 62 2) (va.extractLsb' 11 29) asid = true ↔ e.Hits va asid := by
  simp only [TlbEntry.matchesKey, TlbEntry.Hits, Bool.and_eq_true, Bool.or_eq_true, beq_iff_eq, and_assoc]

section

variable {s : State} {va : DWord} {k : AccessKind}

theorem State.mem_tlbMatches {i : Fin 32} :
    i ∈ s.tlbMatches (va.extractLsb' 62 2) (va.extractLsb' 11 29) ↔ (s.tlb[i]).Hits va s.cp0.entryHi.asid := by
  simp only [State.tlbMatches, List.mem_filter, List.mem_finRange, true_and, TlbEntry.matchesKey_iff]

/-- No entry hits: TLB unmatched (60:R416). -/
theorem State.translateMapped_of_no_hit (h : ∀ i : Fin 32, ¬(s.tlb[i]).Hits va s.cp0.entryHi.asid) :
    s.translateMapped va k = .raise (.tlbRefill va k) s := by
  have none : s.tlbMatches (va.extractLsb' 62 2) (va.extractLsb' 11 29) = [] :=
    List.eq_nil_iff_forall_not_mem.2 fun i hi => h i (State.mem_tlbMatches.1 hi)
  unfold State.translateMapped
  rw [none]

/-- One entry hits: it translates. -/
theorem State.translateMapped_of_hit {i : Fin 32} (h : (s.tlb[i]).Hits va s.cp0.entryHi.asid)
    (only : ∀ j : Fin 32, (s.tlb[j]).Hits va s.cp0.entryHi.asid → j = i) :
    s.translateMapped va k = (s.tlb[i]).translate va k s := by
  have one : s.tlbMatches (va.extractLsb' 62 2) (va.extractLsb' 11 29) = [i] := by
    refine List.perm_singleton.1 ((List.perm_ext_iff_of_nodup ((List.nodup_finRange 32).filter _) (by simp)).2 fun j => ?_)
    rw [List.mem_singleton]
    exact State.mem_tlbMatches.trans ⟨only j, fun e => e ▸ h⟩
  unfold State.translateMapped
  rw [one]

end

/-- The bit of an address above the page size picks the page (20:R117). -/
theorem TlbEntry.page_eq (e : TlbEntry) (va : DWord) :
    e.page va = if va.toNat / 2 ^ pageBits e.mask % 2 = 1 then e.odd else e.even := by
  simp only [TlbEntry.page, BitVec.getLsbD, Nat.testBit_eq_decide_div_mod_eq, decide_eq_true_eq]

/-- The page sizes (10:R36): between 1K and 256K bytes. -/
theorem legalMask_iff {mask : BitVec 8} :
    legalMask mask = true ↔ mask = 0x00 ∨ mask = 0x03 ∨ mask = 0x0F ∨ mask = 0x3F ∨ mask = 0xFF := by
  simp only [legalMask, Bool.or_eq_true, beq_iff_eq, or_assoc]

theorem pageBits_bounds (mask : BitVec 8) : 10 ≤ pageBits mask ∧ pageBits mask ≤ 18 := by
  unfold pageBits
  split <;> decide

/-- For a page size the offset mask has the bits below it (20:R117). -/
theorem pageOffsetMask_eq {mask : BitVec 8} (h : legalMask mask = true) :
    (pageOffsetMask mask).toNat = 2 ^ pageBits mask - 1 := by
  rcases legalMask_iff.1 h with rfl | rfl | rfl | rfl | rfl <;> rfl

/-- Bits of one value above a position, and of another one below it. -/
theorem toNat_merge {x y m : PAddr} {b : Nat} (hm : m.toNat = 2 ^ b - 1) :
    ((x &&& ~~~m) ||| (y &&& m)).toNat = x.toNat / 2 ^ b * 2 ^ b + y.toNat % 2 ^ b := by
  have bits (i : Nat) : m.getLsbD i = decide (i < b) := by
    rw [BitVec.getLsbD, hm, Nat.testBit_two_pow_sub_one]
  refine Nat.eq_of_testBit_eq fun i => ?_
  rw [Nat.mul_comm, Nat.testBit_two_pow_mul_add _ (Nat.mod_lt _ (Nat.two_pow_pos b)), Nat.testBit_mod_two_pow,
    Nat.testBit_div_two_pow, BitVec.testBit_toNat, BitVec.getLsbD_or, BitVec.getLsbD_and, BitVec.getLsbD_and,
    BitVec.getLsbD_not, bits, BitVec.testBit_toNat, BitVec.testBit_toNat]
  by_cases h : i < b
  · simp [h]
  · by_cases hi : i < 32
    · simp [h, hi, Nat.sub_add_cancel (Nat.not_lt.1 h)]
    · simp [h, hi, Nat.sub_add_cancel (Nat.not_lt.1 h), x.getLsbD_of_ge i (Nat.not_lt.1 hi)]

/-- The physical address: the page frame above the page size, the offset in the page below it (20:R117). -/
theorem pageAddress_toNat {mask : BitVec 8} (h : legalMask mask = true) (pfn : BitVec 22) (va : DWord) :
    (pageAddress mask pfn va).toNat
      = pfn.toNat / 2 ^ (pageBits mask - 10) * 2 ^ pageBits mask + va.toNat % 2 ^ pageBits mask := by
  obtain ⟨lo, hi⟩ := pageBits_bounds mask
  have frame : (pfn ++ (0 : BitVec 10)).toNat / 2 ^ pageBits mask = pfn.toNat / 2 ^ (pageBits mask - 10) := by
    rw [BitVec.toNat_append, show (0 : BitVec 10).toNat = 0 from rfl, Nat.or_zero, Nat.shiftLeft_eq]
    conv_lhs => rw [← Nat.sub_add_cancel lo, Nat.pow_add]
    exact Nat.mul_div_mul_right _ _ (by decide)
  have low : (va.extractLsb' 0 32).toNat % 2 ^ pageBits mask = va.toNat % 2 ^ pageBits mask := by
    rw [BitVec.extractLsb'_toNat, Nat.shiftRight_zero, Nat.mod_mod_of_dvd _ (Nat.pow_dvd_pow 2 (by omega))]
  unfold pageAddress
  rw [toNat_merge (pageOffsetMask_eq h), frame, low]

section

variable {e : TlbEntry} {va : DWord} {k : AccessKind} {s : State} (h : legalMask e.mask = true)
include h

theorem TlbEntry.translate_of_invalid (hv : (e.page va).v = false) : e.translate va k s = .raise (.tlbInvalid va k) s := by
  unfold TlbEntry.translate
  rw [if_neg (by simp [h])]
  exact if_pos hv

theorem TlbEntry.translate_of_clean (hv : (e.page va).v = true) (hk : k = .store) (hd : (e.page va).d = false) :
    e.translate va k s = .raise (.tlbMod va) s := by
  unfold TlbEntry.translate
  rw [if_neg (by simp [h])]
  exact (if_neg (by simp [hv])).trans (if_pos ⟨hk, hd⟩)

theorem TlbEntry.translate_of_valid (hv : (e.page va).v = true) (hd : k = .store → (e.page va).d = true) :
    e.translate va k s = .ok { pa := pageAddress e.mask (e.page va).pfn va, cached := (e.page va).c != 2 } s := by
  unfold TlbEntry.translate
  rw [if_neg (by simp [h])]
  exact (if_neg (by simp [hv])).trans (if_neg fun g => by simp [hd g.1] at g)

end

theorem TlbEntry.translate_tlbMod {e : TlbEntry} {va w : DWord} {k : AccessKind} {s u : State}
    (h : e.translate va k s = .raise (.tlbMod w) u) : k = .store := by
  unfold TlbEntry.translate at h
  split at h
  · cases h
  · dsimp only at h
    split at h
    · cases h
    · split at h
      case isTrue hd => exact hd.1
      case isFalse => cases h

/-- Only a store raises TLB change (60:R418). -/
theorem State.translate_tlbMod {va w : DWord} {k : AccessKind} {s u : State} (h : s.translate va k = .raise (.tlbMod w) u) :
    k = .store := by
  unfold State.translate at h
  split at h
  · cases h
  · split at h
    · split at h <;> cases h
    · split at h
      · cases h
      · cases h
      · unfold State.translateMapped at h
        split at h
        · cases h
        · exact TlbEntry.translate_tlbMod h
        · cases h

/-- Settles O48. -/
theorem mappedTranslation : Obligations.MappedTranslation := by
  refine ⟨fun base rt offset s e => ?_, fun va w k s u => State.translate_tlbMod, fun va k s hmode hcanonical hseg => ?_⟩
  · exact ⟨fun raised => ⟨fun i hi => (exec_loadForms_translates hi).raise raised,
        fun usable i hi => (exec_cacheForms_translates usable hi).raise raised⟩,
      fun raised i hi => (exec_storeForms_translates hi).raise raised, State.runInstruction_translation_raise⟩
  · rw [State.translate_of_mapped hmode hcanonical hseg]
    refine ⟨State.translateMapped_of_no_hit, fun i hit only legal => ?_⟩
    dsimp only
    rw [State.translateMapped_of_hit hit only, ← TlbEntry.page_eq]
    exact ⟨TlbEntry.translate_of_invalid legal, TlbEntry.translate_of_clean legal, fun hv hd =>
      ⟨_, TlbEntry.translate_of_valid legal hv hd, pageAddress_toNat legal ..⟩⟩

end Sys2Proof.Machine
end

section
/-! PROOFS. Data accesses where nothing is in error (20:R120, R121, R123, R124): the bytes of a value, the addresses of an access,
what a read gives and what a write leaves. -/

namespace Sys2Proof.Machine

/-! The bytes of a value (20:R110). -/

/-- Taken apart and put together in one byte order, a value has its low bytes, whatever the order. -/
theorem assemble_disassemble_order (bigEndian : Bool) (n : Nat) (v : DWord) :
    assemble bigEndian (disassemble bigEndian n v) = assemble false (disassemble false n v) := by
  cases bigEndian <;> simp [assemble, disassemble]

theorem assemble_cons (b : Byte) (bytes : List Byte) :
    assemble false (b :: bytes) = (assemble false bytes <<< 8) ||| b.setWidth 64 := rfl

theorem disassemble_succ (n : Nat) (v : DWord) :
    disassemble false (n + 1) v = v.extractLsb' 0 8 :: disassemble false n (v >>> 8) := by
  simp only [disassemble, List.range_succ_eq_map, List.map_cons, List.map_map, Bool.false_eq_true, if_false, Nat.mul_zero]
  congr 1
  refine List.map_congr_left fun i _ => BitVec.eq_of_getLsbD_eq fun j hj => ?_
  simp [hj, Nat.mul_succ, Nat.add_comm, Nat.add_left_comm]

theorem assemble_disassemble_getLsbD (n : Nat) : ∀ (v : DWord) (j : Nat), j < 64 →
    (assemble false (disassemble false n v)).getLsbD j = (decide (j < 8 * n) && v.getLsbD j) := by
  induction n with
  | zero => intro v j _; simp [disassemble, assemble]
  | succ n ih =>
    intro v j hj
    rw [disassemble_succ, assemble_cons, BitVec.getLsbD_or, BitVec.getLsbD_shiftLeft, BitVec.getLsbD_setWidth,
      BitVec.getLsbD_extractLsb']
    by_cases h : j < 8
    · simp [h, hj, show j < 8 * (n + 1) by omega]
    · rw [ih _ _ (by omega), BitVec.getLsbD_ushiftRight, Nat.add_sub_cancel' (Nat.not_lt.1 h)]
      simp [h, hj, show j - 8 < 8 * n ↔ j < 8 * (n + 1) by omega]

/-- The low bytes of a value, taken apart and put together. -/
theorem assemble_disassemble_toNat (bigEndian : Bool) (n : Nat) (v : DWord) :
    (assemble bigEndian (disassemble bigEndian n v)).toNat = v.toNat % 2 ^ (8 * n) := by
  rw [assemble_disassemble_order]
  refine Nat.eq_of_testBit_eq fun j => ?_
  rw [Nat.testBit_mod_two_pow, BitVec.testBit_toNat, BitVec.testBit_toNat]
  by_cases hj : j < 64
  · exact assemble_disassemble_getLsbD n v j hj
  · rw [BitVec.getLsbD_of_ge _ _ (Nat.not_lt.1 hj), BitVec.getLsbD_of_ge _ _ (Nat.not_lt.1 hj), Bool.and_false]

theorem disassemble_length (bigEndian : Bool) (n : Nat) (v : DWord) : (disassemble bigEndian n v).length = n := by
  cases bigEndian <;> simp [disassemble]

/-- The bytes of a value in rising address order, in the terms of the statements (20:R110). -/
theorem disassemble_eq_orderedBytes (bigEndian : Bool) (n : Nat) (v : DWord) :
    disassemble bigEndian n v = orderedBytes bigEndian n v := by
  cases bigEndian with
  | false => rfl
  | true =>
    refine List.ext_getElem (by simp [disassemble, orderedBytes]) fun i _ _ => ?_
    simp [disassemble, orderedBytes]

/-! The addresses of an access (20:R111, R123). -/

theorem State.laneAddresses_length (pa : PAddr) (part : Part) (s : State) : (s.laneAddresses pa part).length = part.count := by
  simp [State.laneAddresses]

/-- An access stays in the line of its address. -/
theorem State.lineOf_laneAddresses {pa a : PAddr} {part : Part} {s : State} (h : a ∈ s.laneAddresses pa part) :
    lineOf a = lineOf pa := by
  obtain ⟨k, -, rfl⟩ := List.mem_map.1 h
  unfold lineOf
  rw [extract_append_high _ _ _ _ (by decide)]
  refine BitVec.eq_of_getLsbD_eq fun i hi => ?_
  simp [hi, show 1 + i < 29 by omega, ← Nat.add_assoc]

/-- The bytes of an access of at most eight have different addresses. -/
theorem State.laneAddresses_nodup (pa : PAddr) {part : Part} (h : part.count ≤ 8) (s : State) :
    (s.laneAddresses pa part).Nodup := by
  refine List.Nodup.map_on (fun i hi j hj e => ?_) List.nodup_range
  have lane := (append_inj e).2
  have sum := congrArg (· ^^^ (if s.reverseEndian then (7 : BitVec 3) else 0)) lane
  simp only [BitVec.xor_assoc, BitVec.xor_self, BitVec.xor_zero] at sum
  have step := congrArg BitVec.toNat (add_left_cancel sum)
  rw [List.mem_range] at hi hj
  simp only [BitVec.toNat_ofNat] at step
  omega

/-! Reads (20:R124, R141). -/

theorem State.byteAt_congr {s t : State} (hd : t.dcache = s.dcache) (hm : t.mem = s.mem) (a : PAddr) :
    t.byteAt a = s.byteAt a := by
  unfold State.byteAt State.cachedByte
  rw [State.dLine_congr hd, hm]

theorem State.readAs_congr {s t : State} (hd : t.dcache = s.dcache) (hm : t.mem = s.mem) (cached : Bool) (a : PAddr) :
    t.readAs cached a = s.readAs cached a := by
  simp only [State.readAs, State.byteAt_congr hd hm, hm]

theorem SameCore.bigEndianCpu {s t : State} (h : SameCore s t) : t.bigEndianCpu = s.bigEndianCpu := by rw [h.same]; rfl

theorem SameCore.writeReg_keepsControl {s t : State} (h : SameCore s t) (r : Reg) (v : DWord) :
    KeepsControl s (t.writeReg r v) := by
  rw [State.writeReg, State.setReg_eq, h.same]
  constructor <;> rfl

theorem SameCore.advance_keepsControl {s t : State} (h : SameCore s t) : KeepsControl s t.advance := by
  rw [h.same]
  constructor <;> rfl

/-- Nothing is in the way of reads: the external agent answers without errors, and where they go through the cache it is in no
error either. -/
structure State.Readable (cached : Bool) (s : State) : Prop where
  noBusError : s.busErrors = []
  noBadParity : s.badParity = []
  answered : s.noResponse = []
  clean : cached = true → s.Clean

theorem State.Clean.readable {s : State} (h : s.Clean) (cached : Bool) : s.Readable cached :=
  ⟨h.noBusError, h.noBadParity, h.answered, fun _ => h⟩

/-- What a read may change: it moves lines of the data cache, so that every byte reads as before; an uncached one changes nothing. -/
structure AfterRead (cached : Bool) (s t : State) : Prop where
  core : SameCore s t
  icache : t.icache = s.icache
  bytes : ∀ a, t.byteAt a = s.byteAt a
  uncached : cached = false → t = s

theorem State.busRead_readable {s : State} {cached : Bool} (h : s.Readable cached) (words : WordAddr → Bool) (e : Exc) :
    s.busRead words e = .ok () s := by
  simp [State.busRead, h.noBusError, h.noBadParity, h.answered]

/-- A byte whose line is present is the byte that memory holds. -/
theorem State.cachedByte_of_hit {s : State} {pa a : PAddr} (h : (s.dLine (dIndex pa)).hit pa = true) (ha : lineOf a = lineOf pa) :
    s.cachedByte a = s.byteAt a := by
  rw [← tagOf_append_dIndex, ← tagOf_append_dIndex pa] at ha
  obtain ⟨tag, index⟩ := append_inj ha
  unfold State.byteAt
  rw [if_pos]
  rwa [index, DCacheLine.hit, tag]

theorem State.physRead_readable {s : State} {pa : PAddr} {cached : Bool} {addrs : List PAddr} (h : s.Readable cached)
    (line : ∀ a, a ∈ addrs → lineOf a = lineOf pa) :
    ∃ t, s.physRead pa cached addrs = .ok (addrs.map (s.readAs cached)) t ∧ AfterRead cached s t := by
  cases cached with
  | false =>
    refine ⟨s, ?_, SameCore.refl s, rfl, fun _ => rfl, fun _ => rfl⟩
    show (s.busRead _ _).andThen _ = _
    rw [State.busRead_readable h]
    rfl
  | true =>
    obtain ⟨t, opened, core, icache, hit, bytes, clean⟩ := State.openLine_clean (h.clean rfl) pa
    refine ⟨t, ?_, core, icache, bytes, nofun⟩
    have noError : (addrs.any fun a => t.cachedByteError a) = false :=
      List.any_eq_false.2 fun a _ => by simp [State.cachedByteError, clean.dataBytes]
    have values : addrs.map t.cachedByte = addrs.map (s.readAs true) :=
      List.map_congr_left fun a ha => (State.cachedByte_of_hit hit (line a ha)).trans (bytes a)
    show (s.openLine pa).andThen _ = _
    rw [opened, ← values]
    simp [Access.andThen, noError]

/-- A load of some bytes of a doubleword: the value that memory holds (20:R120, R123). -/
theorem State.loadPart_readable {s : State} {va : DWord} {tr : Translation} (reaches : s.Reaches va .load tr)
    (h : s.Readable tr.cached) (part : Part) :
    ∃ t, s.loadPart va part = .ok (s.valueAt tr part) t ∧ AfterRead tr.cached s t := by
  obtain ⟨t, read, after⟩ :=
    State.physRead_readable (pa := tr.pa) (addrs := s.laneAddresses tr.pa part) h fun a => State.lineOf_laneAddresses
  refine ⟨t, ?_, after⟩
  unfold State.loadPart State.watched
  rw [reaches.translated]
  simp only [Access.andThen, reaches.unwatched, read, Bool.false_eq_true, if_false, after.core.bigEndianCpu, State.valueAt]

/-- An aligned load completes with the value that memory holds (40:R200). -/
theorem State.execLoad_readable {s : State} {base : Reg} {offset : BitVec 16} {tr : Translation} {n : Nat}
    (aligned : (s.effectiveAddress base offset).toNat % n = 0) (reaches : s.Reaches (s.effectiveAddress base offset) .load tr)
    (h : s.Readable tr.cached) (rt : Reg) (f : DWord → DWord) :
    ∃ t, s.execLoad base rt offset n f
        = .next (t.writeReg rt (f (s.valueAt tr { start := s.effectiveAddress base offset, count := n })))
      ∧ AfterRead tr.cached s t := by
  obtain ⟨t, loaded, after⟩ := State.loadPart_readable reaches h { start := s.effectiveAddress base offset, count := n }
  refine ⟨t, ?_, after⟩
  unfold State.execLoad State.load
  rw [if_neg (not_not.2 aligned), loaded]
  rfl

/-- A load that writes its register after a read, in the terms of the statements. -/
theorem AfterRead.loadsRegister {cached : Bool} {s t : State} (h : AfterRead cached s t) (rt : Reg) (v : DWord) :
    LoadsRegister (.next (t.writeReg rt v)) s cached rt v := by
  have advanced : ∀ r, t.advance.reg r = s.reg r := fun r => h.core.reg r
  refine ⟨t.writeReg rt v, rfl, State.reg_setReg_same .., fun r hr => ?_, ?_, ?_, h.core.writeReg_keepsControl rt v, ?_,
    fun a => ?_, fun hc => ?_⟩
  · exact (State.reg_setReg_other _ v (by simpa using hr)).trans (advanced r)
  · rw [State.writeReg, State.setReg_eq, h.core.same]
    exact ⟨rfl, rfl⟩
  · rw [State.writeReg, State.setReg_eq, h.core.same]
    exact ⟨rfl, rfl, rfl, rfl⟩
  · rw [State.writeReg, State.setReg_icache]
    exact h.icache
  · rw [← h.bytes a]
    exact State.byteAt_congr (State.setReg_dcache ..) (State.setReg_mem ..) a
  · obtain rfl := h.uncached hc
    exact ⟨State.setReg_mem .., State.setReg_icache .., State.setReg_dcache ..,
      State.byteAt_congr (State.setReg_dcache ..) (State.setReg_mem ..)⟩

/-! Writes (20:R124, R142). -/

/-- A line whose byte is stored keeps its tag, so it holds the same addresses (20:R142). -/
theorem State.storeCachedByte_hit (a x : PAddr) (b : Byte) (s : State) :
    ((s.storeCachedByte a b).dLine (dIndex x)).hit x = (s.dLine (dIndex x)).hit x := by
  unfold State.storeCachedByte
  by_cases h : dIndex x = dIndex a
  · rw [h, State.dLine_setDLine_same]
    rfl
  · rw [State.dLine_setDLine_other _ _ h]

/-- A byte of a line with one byte stored. -/
theorem DCacheLine.byte_setByte (l : DCacheLine) (o x : BitVec 4) (b : Byte) (parity : Bool) :
    (l.setByte o b parity).byte x = if x = o then b else l.byte x := by
  simp only [DCacheLine.byte, DCacheLine.setByte, Vector.getElem_set, BitVec.toNat_inj, eq_comm (a := o)]

/-- A byte stored with its parity leaves no parity error behind it, where there was none (20:R156). -/
theorem DCacheLine.byteError_setByte {l : DCacheLine} (h : ∀ x, l.byteError x = false) (o x : BitVec 4) (b : Byte) :
    (l.setByte o b (evenParity b)).byteError x = false := by
  have parity : (l.setByte o b (evenParity b)).dataP.getLsbD x.toNat
      = if x.toNat = o.toNat then evenParity b else l.dataP.getLsbD x.toNat :=
    bitsOf_getLsbD 16 (fun i => if i = o.toNat then evenParity b else l.dataP.getLsbD i) x.toNat x.isLt
  unfold DCacheLine.byteError
  rw [parity, DCacheLine.byte_setByte]
  simp only [BitVec.toNat_inj]
  split
  · exact bne_self_eq_false _
  · exact h x

/-- A store to a line that is present: the byte at the address is the one stored. -/
theorem State.storeCachedByte_byteAt_same {s : State} {a : PAddr} (h : (s.dLine (dIndex a)).hit a = true) (b : Byte) :
    (s.storeCachedByte a b).byteAt a = b := by
  unfold State.byteAt
  rw [State.storeCachedByte_hit, if_pos h]
  unfold State.cachedByte State.storeCachedByte
  rw [State.dLine_setDLine_same, DCacheLine.byte_setByte, if_pos rfl]

/-- And no other byte of memory changes. -/
theorem State.storeCachedByte_byteAt_other {s : State} {a x : PAddr} (h : (s.dLine (dIndex a)).hit a = true) (hx : x ≠ a)
    (b : Byte) : (s.storeCachedByte a b).byteAt x = s.byteAt x := by
  unfold State.byteAt
  rw [State.storeCachedByte_hit]
  split
  case isFalse => rfl
  case isTrue hit =>
    unfold State.cachedByte State.storeCachedByte
    by_cases index : dIndex x = dIndex a
    · have offset : lineOffset x ≠ lineOffset a := by
        intro e
        rw [index] at hit
        simp only [DCacheLine.hit, Bool.and_eq_true, beq_iff_eq] at h hit
        rw [← lineOf_append_lineOffset x, ← lineOf_append_lineOffset a, ← tagOf_append_dIndex, ← tagOf_append_dIndex a,
          e, index, ← h.2, ← hit.2] at hx
        exact hx rfl
      rw [index, State.dLine_setDLine_same, DCacheLine.byte_setByte, if_neg offset]
    · rw [State.dLine_setDLine_other _ _ index]

/-- A byte stored with right parity leaves nothing in error (10:R67, R75). -/
theorem State.Clean.storeCachedByte {s : State} (h : s.Clean) (hce : s.cp0.status.ce = false) (a : PAddr) (b : Byte) :
    (s.storeCachedByte a b).Clean := by
  have parity : s.storeParity a b = evenParity b := by simp [State.storeParity, hce]
  have stored : (s.storeCachedByte a b).dLine (dIndex a)
      = (s.dLine (dIndex a)).setByte (lineOffset a) b (evenParity b) := by
    rw [← parity]; exact State.dLine_setDLine_same ..
  have other : ∀ i, i ≠ dIndex a → (s.storeCachedByte a b).dLine i = s.dLine i := fun i hi =>
    State.dLine_setDLine_other _ _ hi
  refine ⟨h.noBusError, h.noBadParity, h.answered, fun i => ?_, fun i o => ?_, h.instructionTags, fun x hit clean => ?_, h.memory⟩
  · by_cases hi : i = dIndex a
    · have tag := h.dataTags (dIndex a)
      simp only [DCacheLine.tagError, Bool.or_eq_false_iff] at tag
      rw [hi, stored]
      simp [DCacheLine.tagError, DCacheLine.setByte, tag.1]
    · rw [other i hi]; exact h.dataTags i
  · by_cases hi : i = dIndex a
    · rw [hi, stored]; exact DCacheLine.byteError_setByte (h.dataBytes _) ..
    · rw [other i hi]; exact h.dataBytes i o
  · by_cases hi : dIndex x = dIndex a
    · rw [hi, stored] at clean
      exact Bool.noConfusion clean
    · rw [other _ hi] at hit clean
      unfold State.cachedByte
      rw [other _ hi]
      exact h.cleanLines x hit clean

/-- What a write leaves: the bytes it was given are in memory as its accesses find it, and every other byte reads as before. -/
structure AfterWrite (cached : Bool) (ws : List (PAddr × Byte)) (s t : State) : Prop where
  core : SameCore s t
  icache : t.icache = s.icache
  stored : ∀ w, w ∈ ws → t.readAs cached w.1 = w.2
  others : ∀ a, a ∉ ws.map Prod.fst → t.byteAt a = s.byteAt a
  uncached : cached = false → t.dcache = s.dcache ∧ ∀ a, a ∉ ws.map Prod.fst → t.mem.read a = s.mem.read a
  readable : s.cp0.status.ce = false → t.Readable cached

/-- Bytes stored in lines that are present. -/
theorem State.storeCachedBytes_spec (ws : List (PAddr × Byte)) : ∀ {s : State},
    (∀ w, w ∈ ws → (s.dLine (dIndex w.1)).hit w.1 = true) → (ws.map Prod.fst).Nodup →
    let t := ws.foldl (fun u w => u.storeCachedByte w.1 w.2) s
    (∀ w, w ∈ ws → t.byteAt w.1 = w.2) ∧ (∀ a, a ∉ ws.map Prod.fst → t.byteAt a = s.byteAt a) ∧ t.icache = s.icache
      ∧ (s.Clean → s.cp0.status.ce = false → t.Clean) := by
  induction ws with
  | nil => exact fun _ _ => ⟨nofun, fun _ _ => rfl, rfl, fun h _ => h⟩
  | cons w ws ih =>
    intro s hit nodup
    rw [List.map_cons, List.nodup_cons] at nodup
    obtain ⟨stored, others, icache, clean⟩ := ih (s := s.storeCachedByte w.1 w.2)
      (fun x hx => by rw [State.storeCachedByte_hit]; exact hit x (.tail _ hx)) nodup.2
    have here := hit w (.head _)
    refine ⟨fun x hx => ?_, fun a ha => ?_, icache, fun h hce => clean (h.storeCachedByte hce ..) hce⟩
    · rcases List.mem_cons.1 hx with rfl | hx
      · exact (others _ nodup.1).trans (State.storeCachedByte_byteAt_same here _)
      · exact stored x hx
    · rw [List.map_cons, List.mem_cons, not_or] at ha
      exact (others a ha.2).trans (State.storeCachedByte_byteAt_other here ha.1 _)

theorem State.physWrite_clean {s : State} (h : s.Clean) {pa : PAddr} (cached : Bool) {ws : List (PAddr × Byte)}
    (line : ∀ w, w ∈ ws → lineOf w.1 = lineOf pa) (nodup : (ws.map Prod.fst).Nodup) :
    ∃ t, s.physWrite pa cached ws = .ok () t ∧ AfterWrite cached ws s t := by
  cases cached with
  | false =>
    have others : ∀ a, a ∉ ws.map Prod.fst → (s.mem.writeAll ws).read a = s.mem.read a := fun a ha =>
      Memory.read_writeAll_other ws ha h.memory
    refine ⟨s.mapMem fun m => m.writeAll ws, rfl, ⟨rfl, Memory.wf_writeAll ws⟩, rfl,
      fun w hw => Memory.read_writeAll_same ws h.memory nodup hw, fun a ha => ?_, fun _ => ⟨rfl, others⟩,
      fun _ => ⟨h.noBusError, h.noBadParity, h.answered, nofun⟩⟩
    show (if _ then _ else (s.mem.writeAll ws).read a) = _
    rw [others a ha]
    rfl
  | true =>
    obtain ⟨u, opened, core, icache, hit, bytes, clean⟩ := State.openLine_clean h pa
    have present : ∀ w, w ∈ ws → (u.dLine (dIndex w.1)).hit w.1 = true := by
      intro w hw
      have e := line w hw
      rw [← tagOf_append_dIndex, ← tagOf_append_dIndex pa] at e
      obtain ⟨tag, index⟩ := append_inj e
      rwa [index, DCacheLine.hit, tag]
    have spec := State.storeCachedBytes_spec ws present nodup
    have core' := SameCore.storeCachedBytes ws u
    generalize ht : ws.foldl (fun u w => u.storeCachedByte w.1 w.2) u = t at spec core'
    obtain ⟨stored, others, icache', clean'⟩ := spec
    refine ⟨t, ?_, core.trans core',
      icache'.trans icache, stored, fun a ha => (others a ha).trans (bytes a), nofun, fun hce => ?_⟩
    · show (s.openLine pa).andThen _ = _
      rw [opened, ← ht]
      rfl
    · exact (clean' clean (by rw [core.cp0]; exact hce)).readable true

/-- What a store of a part writes: the bytes of the value, in the byte order of the moment, at the addresses of the access. -/
def State.partWrites (tr : Translation) (part : Part) (v : DWord) (s : State) : List (PAddr × Byte) :=
  (s.laneAddresses tr.pa part).zip (disassemble s.bigEndianCpu part.count v)

theorem State.partWrites_addresses (tr : Translation) (part : Part) (v : DWord) (s : State) :
    (s.partWrites tr part v).map Prod.fst = s.laneAddresses tr.pa part :=
  List.map_fst_zip (by rw [disassemble_length, State.laneAddresses_length])

/-- After the store the addresses of the access read as the bytes of the value. -/
theorem AfterWrite.read_back {cached : Bool} {tr : Translation} {part : Part} {v : DWord} {s t : State}
    (h : AfterWrite cached (s.partWrites tr part v) s t) :
    (s.laneAddresses tr.pa part).map (t.readAs cached) = disassemble s.bigEndianCpu part.count v := by
  have lengths : (s.laneAddresses tr.pa part).length = (disassemble s.bigEndianCpu part.count v).length := by
    rw [disassemble_length, State.laneAddresses_length]
  refine List.ext_getElem (by rw [List.length_map, lengths]) fun i hi hi' => ?_
  rw [List.getElem_map]
  refine h.stored ((s.laneAddresses tr.pa part)[i]'(by simpa using hi), (disassemble s.bigEndianCpu part.count v)[i]) ?_
  exact List.mem_iff_getElem.2 ⟨i, by simpa [State.partWrites, ← lengths] using hi, List.getElem_zip⟩

/-- A store of some bytes of a doubleword (20:R121, R123). -/
theorem State.storePart_clean {s : State} {va : DWord} {tr : Translation} (reaches : s.Reaches va .store tr) (h : s.Clean)
    {part : Part} (short : part.count ≤ 8) (v : DWord) :
    ∃ t, s.storePart va part v = .ok () t ∧ AfterWrite tr.cached (s.partWrites tr part v) s t := by
  have addresses := State.partWrites_addresses tr part v s
  obtain ⟨t, written, after⟩ := State.physWrite_clean h (pa := tr.pa) tr.cached (ws := s.partWrites tr part v)
    (fun w hw => State.lineOf_laneAddresses (addresses ▸ List.mem_map_of_mem hw))
    (addresses ▸ State.laneAddresses_nodup tr.pa short s)
  refine ⟨t, ?_, after⟩
  unfold State.storePart State.watched
  rw [reaches.translated]
  simp only [Access.andThen, reaches.unwatched, Bool.false_eq_true, if_false]
  exact written

/-- An aligned store completes with the low bytes of the register in memory (40:R212 to R215). -/
theorem State.execStore_clean {s : State} {base : Reg} {offset : BitVec 16} {tr : Translation} {n : Nat}
    (aligned : (s.effectiveAddress base offset).toNat % n = 0) (short : n ≤ 8)
    (reaches : s.Reaches (s.effectiveAddress base offset) .store tr) (h : s.Clean) (rt : Reg) :
    ∃ t, s.execStore base rt offset n = .next t.advance
      ∧ AfterWrite tr.cached (s.partWrites tr { start := s.effectiveAddress base offset, count := n } (s.reg rt)) s t := by
  obtain ⟨t, stored, after⟩ :=
    State.storePart_clean reaches h (part := { start := s.effectiveAddress base offset, count := n }) short (s.reg rt)
  refine ⟨t, ?_, after⟩
  unfold State.execStore State.store
  rw [if_neg (not_not.2 aligned), stored]
  rfl

/-- A store that has written its bytes, in the terms of the statements. -/
theorem AfterWrite.storesBytes {cached : Bool} {tr : Translation} {part : Part} {v : DWord} {s t : State}
    (h : AfterWrite cached (s.partWrites tr part v) s t) :
    StoresBytes (.next t.advance) s cached (s.laneAddresses tr.pa part) (orderedBytes s.bigEndianCpu part.count v) := by
  have addresses := State.partWrites_addresses tr part v s
  refine ⟨t.advance, rfl, ?_, fun a ha => h.others a (addresses ▸ ha), fun hc => ?_, fun r _ => h.core.reg r, ?_, ?_,
    h.core.advance_keepsControl, h.icache⟩
  · rw [← disassemble_eq_orderedBytes]
    exact h.read_back
  · exact ⟨(h.uncached hc).1, fun a ha => (h.uncached hc).2 a (addresses ▸ ha)⟩
  · rw [h.core.same]; exact ⟨rfl, rfl⟩
  · rw [h.core.same]; exact ⟨rfl, rfl, rfl, rfl⟩

end Sys2Proof.Machine
end

section
/-! PROOFS. Alignment: the address errors and the byte accesses (20:R113; 40:R201, R202, R212): O46. -/

namespace Sys2Proof.Machine

section

variable {s : State} {base : Reg} {offset : BitVec 16} {n : Nat}

theorem State.execLoad_misaligned (h : (s.effectiveAddress base offset).toNat % n ≠ 0) (rt : Reg) (f : DWord → DWord) :
    s.execLoad base rt offset n f = .next (s.takeException (.addressError (s.effectiveAddress base offset) .load)) := by
  unfold State.execLoad State.load
  rw [if_pos h]
  rfl

theorem State.execStore_misaligned (h : (s.effectiveAddress base offset).toNat % n ≠ 0) (rt : Reg) :
    s.execStore base rt offset n = .next (s.takeException (.addressError (s.effectiveAddress base offset) .store)) := by
  unfold State.execStore State.store
  rw [if_pos h]
  rfl

end

theorem State.runInstruction_misaligned {s : State} (h : s.pc.toNat % 4 ≠ 0) :
    s.runInstruction = .next (s.takeException (.addressError s.pc .fetch)) := by
  unfold State.runInstruction State.fetch
  rw [if_pos h]
  rfl

/-- A value of one byte. -/
theorem State.valueAt_byte_toNat_lt (tr : Translation) (va : DWord) (s : State) :
    (s.valueAt tr { start := va, count := 1 }).toNat < 2 ^ 8 := by
  obtain ⟨a, ha⟩ : ∃ a, s.laneAddresses tr.pa { start := va, count := 1 } = [a] := ⟨_, rfl⟩
  have value : s.valueAt tr { start := va, count := 1 } = (s.readAs tr.cached a).setWidth 64 := by
    rw [State.valueAt, ha]
    cases s.bigEndianCpu <;> simp [assemble]
  rw [value, BitVec.toNat_setWidth]
  have := (s.readAs tr.cached a).isLt
  omega

theorem loadUnsigned_toNat (w : Nat) (x : DWord) : (loadUnsigned w x).toNat = x.toNat % 2 ^ w % 2 ^ 64 := by
  simp [loadUnsigned]

/-- Sign extension, by numbers (00:R7). -/
theorem loadSigned_eq_ofInt_bmod (w : Nat) (x : DWord) :
    loadSigned w x = BitVec.ofInt 64 ((x.toNat : Int).bmod (2 ^ w)) := by
  rw [loadSigned, BitVec.signExtend, BitVec.toInt_eq_toNat_bmod, BitVec.extractLsb'_toNat, Nat.shiftRight_zero]
  exact congrArg (BitVec.ofInt 64) (by simpa using Int.emod_bmod (x.toNat : Int) (2 ^ w))

/-- Settles O46. -/
theorem misalignedAccess : Obligations.MisalignedAccess := by
  intro base rt offset s va
  refine ⟨fun h2 i hi => ?_, fun h2 => State.execStore_misaligned h2 rt,
    fun h4 => ⟨State.execLoad_misaligned h4 rt _, State.execStore_misaligned h4 rt⟩, fun h64 => ⟨fun h4 => ?_, fun h8 => ⟨?_, ?_⟩⟩,
    State.runInstruction_misaligned, fun a k => ⟨⟨rfl, rfl, rfl, fun _ => rfl⟩, fun _ _ => rfl, rfl, rfl⟩,
    fun clean tr => ⟨fun reaches => ?_, fun reaches => ?_⟩⟩
  · simp only [List.mem_cons, List.not_mem_nil, or_false] at hi
    rcases hi with rfl | rfl
    · exact State.execLoad_misaligned h2 rt _
    · exact State.execLoad_misaligned h2 rt _
  · exact (if_pos h64).trans (State.execLoad_misaligned h4 rt _)
  · exact (if_pos h64).trans (State.execLoad_misaligned h8 rt _)
  · exact (if_pos h64).trans (State.execStore_misaligned h8 rt)
  · have loads (f : DWord → DWord) : LoadsRegister (s.execLoad base rt offset 1 f) s tr.cached rt
        (f (s.valueAt tr { start := va, count := 1 })) := by
      obtain ⟨t, loaded, after⟩ := State.execLoad_readable (Nat.mod_one _) reaches (clean.readable tr.cached) rt f
      rw [loaded]
      exact after.loadsRegister rt _
    have unsigned : loadUnsigned 8 (s.valueAt tr { start := va, count := 1 }) = s.valueAt tr { start := va, count := 1 } := by
      have := State.valueAt_byte_toNat_lt tr va s
      rw [← BitVec.toNat_inj, loadUnsigned_toNat]
      omega
    exact ⟨loadSigned_eq_ofInt_bmod 8 _ ▸ loads (loadSigned 8), unsigned ▸ loads (loadUnsigned 8)⟩
  · obtain ⟨t, stored, after⟩ := State.execStore_clean (Nat.mod_one _) (by decide) reaches clean rt
    show StoresBytes (s.execStore base rt offset 1) _ _ _ _
    rw [stored]
    exact after.storesBytes

end Sys2Proof.Machine
end

section
/-! PROOFS. A load gives back what a store has put there (20:R130): O47. -/

namespace Sys2Proof.Machine

/-- What an entry gives for an address depends on the entry only (20:R115). -/
theorem TlbEntry.translate_eq_ok {e : TlbEntry} {va : DWord} {k : AccessKind} {tr : Translation} {s : State} (t : State)
    (h : e.translate va k s = .ok tr s) : e.translate va k t = .ok tr t := by
  unfold TlbEntry.translate at h ⊢
  split at h
  · cases h
  · rw [if_neg ‹_›]
    dsimp only at h ⊢
    split at h
    · cases h
    · rw [if_neg ‹_›]
      split at h
      · cases h
      · rw [if_neg ‹_›, (Access.ok.inj h).1]

section

variable {s t : State} (h : KeepsControl s t)
include h

theorem KeepsControl.translate_eq_ok {va : DWord} {k : AccessKind} {tr : Translation} (ht : s.translate va k = .ok tr s) :
    t.translate va k = .ok tr t := by
  have mode : t.mode = s.mode := by unfold State.mode; rw [h.cp0]
  have wide : t.is64bitAddr = s.is64bitAddr := by unfold State.is64bitAddr; rw [mode, h.cp0]
  have segment : t.segment va = s.segment va := by unfold State.segment; rw [mode, h.cp0]
  have hits (r : BitVec 2) (vpn2 : BitVec 29) : t.tlbMatches r vpn2 = s.tlbMatches r vpn2 := by
    unfold State.tlbMatches; rw [h.cp0, h.tlb]
  unfold State.translate at ht ⊢
  rw [mode, wide, segment]
  split at ht
  · cases ht
  · rw [if_neg ‹_›]
    split at ht
    · split at ht <;> cases ht
    · rw [if_neg ‹_›]
      split at ht
      · cases ht
      · rw [(Access.ok.inj ht).1]
      · unfold State.translateMapped at ht ⊢
        rw [hits, h.tlb]
        split at ht
        · cases ht
        · exact TlbEntry.translate_eq_ok t ht
        · cases ht

/-- An address is reached as before where the control state is unchanged. -/
theorem KeepsControl.reaches {va : DWord} {k : AccessKind} {tr : Translation} (g : s.Reaches va k tr) : t.Reaches va k tr :=
  ⟨h.translate_eq_ok g.translated, by rw [State.watchMatch, h.cp0]; exact g.unwatched⟩

theorem KeepsControl.bigEndianCpu : t.bigEndianCpu = s.bigEndianCpu := by
  unfold State.bigEndianCpu State.reverseEndian State.mode
  rw [h.cp0]

theorem KeepsControl.is64bitOps : t.is64bitOps = s.is64bitOps := by
  unfold State.is64bitOps State.mode
  rw [h.cp0]

theorem KeepsControl.laneAddresses (pa : PAddr) (part : Part) : t.laneAddresses pa part = s.laneAddresses pa part := by
  unfold State.laneAddresses State.reverseEndian State.mode
  rw [h.cp0]

end

/-- The completion of an instruction does not touch what reads depend on. -/
theorem State.Readable.advance {s : State} {cached : Bool} (h : s.Readable cached) : s.advance.Readable cached where
  noBusError := h.noBusError
  noBadParity := h.noBadParity
  answered := h.answered
  clean := fun hc =>
    have c := h.clean hc
    ⟨c.noBusError, c.noBadParity, c.answered, c.dataTags, c.dataBytes, c.instructionTags, c.cleanLines, c.memory⟩

/-- A store and a load of the same width at the same address: the load finds the low bytes of what the store was given. -/
theorem State.store_then_load {s : State} {base : Reg} {offset : BitVec 16} {tr : Translation} {n : Nat}
    (aligned : (s.effectiveAddress base offset).toNat % n = 0) (short : n ≤ 8) (clean : s.Clean)
    (reachesStore : s.Reaches (s.effectiveAddress base offset) .store tr)
    (reachesLoad : s.Reaches (s.effectiveAddress base offset) .load tr) (hce : s.cp0.status.ce = false) (rt rd : Reg)
    (f : DWord → DWord) :
    ∃ t u x, s.execStore base rt offset n = .next t ∧ KeepsControl s t ∧ t.execLoad base rd offset n f = .next u
      ∧ x.toNat = (s.reg rt).toNat % 2 ^ (8 * n) ∧ u.reg rd = if rd = 0 then 0 else f x := by
  obtain ⟨w, stored, written⟩ := State.execStore_clean aligned short reachesStore clean rt
  have control := written.core.advance_keepsControl
  have address : w.advance.effectiveAddress base offset = s.effectiveAddress base offset :=
    congrArg (· + sextImm offset) (written.core.reg base)
  have value : w.advance.valueAt tr { start := s.effectiveAddress base offset, count := n }
      = assemble s.bigEndianCpu (disassemble s.bigEndianCpu n (s.reg rt)) := by
    rw [State.valueAt, control.bigEndianCpu, control.laneAddresses]
    exact congrArg _ written.read_back
  obtain ⟨u, loaded, -⟩ := State.execLoad_readable (s := w.advance) (by rwa [address])
    (by rw [address]; exact control.reaches reachesLoad) (written.readable hce).advance rd f
  rw [address, value] at loaded
  exact ⟨w.advance, _, _, stored, control, loaded, assemble_disassemble_toNat .., State.reg_setReg_same ..⟩

/-- A zero-extended byte or halfword is what a mask leaves (00:R7). -/
theorem loadUnsigned_eq_mask {w : Nat} (hw : w ≤ 64) {x v : DWord} (h : x.toNat = v.toNat % 2 ^ w) :
    loadUnsigned w x = v &&& BitVec.ofNat 64 (2 ^ w - 1) := by
  have bound : 2 ^ w ≤ 2 ^ 64 := Nat.pow_le_pow_right (by decide) hw
  have low := Nat.mod_lt v.toNat (Nat.two_pow_pos w)
  rw [← BitVec.toNat_inj, loadUnsigned_toNat, BitVec.toNat_and, BitVec.toNat_ofNat, Nat.mod_eq_of_lt (a := 2 ^ w - 1) (by omega),
    Nat.and_two_pow_sub_one_eq_mod, h, Nat.mod_mod, Nat.mod_eq_of_lt (by omega)]

/-- Settles O47. -/
theorem storeThenLoad : Obligations.StoreThenLoad := by
  intro base rt rd offset s tr va v gives clean reachesStore reachesLoad hce
  have pair {n : Nat} (aligned : va.toNat % n = 0) (short : n ≤ 8) :=
    State.store_then_load aligned short clean reachesStore reachesLoad hce rt rd
  refine ⟨?_, fun h2 => ?_, fun h4 => ?_, fun h8 h64 => ?_⟩
  · obtain ⟨t, u, x, stored, -, loaded, hx, hu⟩ := pair (Nat.mod_one _) (by decide) (loadUnsigned 8)
    exact ⟨t, u, stored, loaded, hu.trans (by rw [loadUnsigned_eq_mask (by decide) hx]; rfl)⟩
  · obtain ⟨t, u, x, stored, -, loaded, hx, hu⟩ := pair h2 (by decide) (loadUnsigned 16)
    exact ⟨t, u, stored, loaded, hu.trans (by rw [loadUnsigned_eq_mask (by decide) hx]; rfl)⟩
  · obtain ⟨t, u, x, stored, -, loaded, hx, hu⟩ := pair h4 (by decide) (loadSigned 32)
    have low : low32 x = low32 v := by
      rw [low32, low32, ← BitVec.toNat_inj, BitVec.extractLsb'_toNat, BitVec.extractLsb'_toNat, hx]
      simp [v]
    exact ⟨t, u, stored, loaded, hu.trans (by rw [← low]; rfl)⟩
  · obtain ⟨t, u, x, stored, control, loaded, hx, hu⟩ := pair h8 (by decide) id
    have whole : x = v := BitVec.eq_of_toNat_eq (hx.trans (Nat.mod_eq_of_lt v.isLt))
    exact ⟨t, u, (if_pos h64).trans stored, (if_pos (control.is64bitOps.trans h64)).trans loaded, whole ▸ hu⟩

end Sys2Proof.Machine
end

section
/-! PROOFS. The decoder and the encoder are inverse to each other: O1 and O2 (30:R160 to R171). -/

namespace Sys2Proof

section

variable (w : Word32) (op : BitVec 6) (rs rt rd : Reg) (sa : BitVec 5) (funct : BitVec 6) (imm : BitVec 16)
  (target : BitVec 26) (code : BitVec 20) (trapCode : BitVec 10)

/-- The four fields of an I-format word make up the word. -/
theorem iType_fields :
    iType (w.extractLsb' 26 6) (w.extractLsb' 21 5) (w.extractLsb' 16 5) (w.extractLsb' 0 16) = w := by
  unfold iType
  rw [extract_append_extract w 21 5 6, extract_append_extract w 16 5 11, extract_append_extract w 0 16 16, extract_whole]

/-- The fields of a J-format target, put together. -/
theorem target_fields :
    target.extractLsb' 21 5 ++ target.extractLsb' 16 5 ++ target.extractLsb' 0 16 = target := by
  rw [extract_append_extract target 16 5 5, extract_append_extract target 0 16 10, extract_whole]

/-- The fields of a SYSCALL or BREAK code, put together. -/
theorem code_fields :
    code.extractLsb' 15 5 ++ code.extractLsb' 10 5 ++ code.extractLsb' 5 5 ++ code.extractLsb' 0 5 = code := by
  rw [extract_append_extract code 10 5 5, extract_append_extract code 5 5 10, extract_append_extract code 0 5 15,
    extract_whole]

/-- The fields of a trap code, put together. -/
theorem trapCode_fields : trapCode.extractLsb' 5 5 ++ trapCode.extractLsb' 0 5 = trapCode := by
  rw [extract_append_extract trapCode 0 5 5, extract_whole]

/-- The target of a J-format word is what stands in the fields below its opcode. -/
theorem jType_append : jType op (rs ++ rt ++ imm) = iType op rs rt imm := by
  unfold jType
  rw [extract_append_high (rs ++ rt) imm 21 5 (by omega), extract_append_high (rs ++ rt) imm 16 5 (by omega),
    extract_append_low (rs ++ rt) imm 0 16 (by omega), extract_append_high rs rt 5 5 (by omega),
    extract_append_low rs rt 0 5 (by omega), extract_whole, extract_whole, extract_whole]

/-- The code of SYSCALL or BREAK is what stands in the fields above its function. -/
theorem codeType_append : codeType (rs ++ rt ++ rd ++ sa) funct = rType rs rt rd sa funct := by
  unfold codeType
  rw [extract_append_high (rs ++ rt ++ rd) sa 15 5 (by omega), extract_append_high (rs ++ rt ++ rd) sa 10 5 (by omega),
    extract_append_high (rs ++ rt ++ rd) sa 5 5 (by omega), extract_append_low (rs ++ rt ++ rd) sa 0 5 (by omega),
    extract_append_high (rs ++ rt) rd 10 5 (by omega), extract_append_high (rs ++ rt) rd 5 5 (by omega),
    extract_append_low (rs ++ rt) rd 0 5 (by omega), extract_append_high rs rt 5 5 (by omega),
    extract_append_low rs rt 0 5 (by omega), extract_whole, extract_whole, extract_whole, extract_whole]

/-- The code of a trap is what stands in the fields between its registers and its function. -/
theorem trapType_append : trapType rs rt (rd ++ sa) funct = rType rs rt rd sa funct := by
  unfold trapType
  rw [extract_append_high rd sa 5 5 (by omega), extract_append_low rd sa 0 5 (by omega), extract_whole, extract_whole]

/-- The field `rd` of an R-format word, and below it the fields `sa` and `funct`. -/
theorem imm_rd : (rd ++ sa ++ funct : BitVec 16).extractLsb' 11 5 = rd := by
  rw [extract_append_high (rd ++ sa) funct 11 5 (by omega), extract_append_high rd sa 5 5 (by omega), extract_whole]

theorem imm_sa : (rd ++ sa ++ funct : BitVec 16).extractLsb' 6 5 = sa := by
  rw [extract_append_high (rd ++ sa) funct 6 5 (by omega), extract_append_low rd sa 0 5 (by omega), extract_whole]

theorem imm_funct : (rd ++ sa ++ funct : BitVec 16).extractLsb' 0 6 = funct := by
  rw [extract_append_low (rd ++ sa) funct 0 6 (by omega), extract_whole]

/-- The fields below the registers, put together. -/
theorem imm_fields : imm.extractLsb' 11 5 ++ imm.extractLsb' 6 5 ++ imm.extractLsb' 0 6 = imm := by
  rw [extract_append_extract imm 6 5 5, extract_append_extract imm 0 6 10, extract_whole]

/-- What a word of major opcode COP0 stands for (30:R167). -/
theorem decode_cop0 : decode (iType 0x10 rs rt (rd ++ sa ++ funct)) = decodeCop0 rs rt rd sa funct := by
  have fields : decodeFields 0x10 rs rt (rd ++ sa ++ funct) = decodeCop0 rs rt ((rd ++ sa ++ funct).extractLsb' 11 5)
      ((rd ++ sa ++ funct).extractLsb' 6 5) ((rd ++ sa ++ funct).extractLsb' 0 6) := rfl
  rw [decode_iType, fields, imm_rd, imm_sa, imm_funct]

/-- A CP0 move has a zero shift amount and a zero function. -/
theorem cp0MoveType_eq : cp0MoveType rs rt rd = iType 0x10 rs rt (rd ++ (0 : BitVec 5) ++ (0 : BitVec 6)) :=
  congrArg (iType 0x10 rs rt) <|
    (BitVec.append_assoc' (x₁ := rd) (x₂ := (0 : BitVec 5)) (x₃ := (0 : BitVec 6))).trans (BitVec.cast_eq ..)

theorem decode_cp0MoveType : decode (cp0MoveType rs rt rd) = decodeCop0 rs rt rd 0 0 := by
  rw [cp0MoveType_eq, decode_cop0]

theorem decode_coType : decode (coType funct) = decodeCop0 0x10 0 0 0 funct :=
  decode_cop0 0x10 0 0 0 funct

/-- A J-format word stands for the instruction of its major opcode, with the target whole. -/
theorem decode_jType {f : BitVec 26 → Instr} (h : ∀ rs rt imm, decodeFields op rs rt imm = .ok (f (rs ++ rt ++ imm))) :
    decode (jType op target) = .ok (f target) := by
  rw [jType, decode_iType, h, target_fields]

/-- A SYSCALL or BREAK word stands for the instruction of its function, with the code whole. -/
theorem decode_codeType {f : BitVec 20 → Instr}
    (h : ∀ rs rt rd sa, decodeSpecial rs rt rd sa funct = .ok (f (rs ++ rt ++ rd ++ sa))) :
    decode (codeType code funct) = .ok (f code) := by
  rw [codeType, decode_rType, h, code_fields]

/-- A trap's word stands for the instruction of its function, with the code whole. -/
theorem decode_trapType {f : BitVec 10 → Instr} (h : ∀ rd sa, decodeSpecial rs rt rd sa funct = .ok (f (rd ++ sa))) :
    decode (trapType rs rt trapCode funct) = .ok (f trapCode) := by
  rw [trapType, decode_rType, h, trapCode_fields]

/-- A word laid out as bytes in little-endian order (20:R110) is read back as the word. -/
theorem wordOfBytes_extract :
    wordOfBytes false (w.extractLsb' 0 8) (w.extractLsb' 8 8) (w.extractLsb' 16 8) (w.extractLsb' 24 8) = w := by
  show w.extractLsb' 24 8 ++ w.extractLsb' 16 8 ++ w.extractLsb' 8 8 ++ w.extractLsb' 0 8 = w
  rw [extract_append_extract w 16 8 8, extract_append_extract w 8 8 16, extract_append_extract w 0 8 24, extract_whole]

/-- The host's question about all the bits of a word is `decode`'s answer. -/
theorem decodeTableWord_toNat : decodeTableWord 32 w.toNat = (decode w).toOption := by
  unfold decodeTableWord decodeBytes
  dsimp only
  rw [Nat.mod_eq_of_lt w.isLt, BitVec.ofNat_toNat, BitVec.setWidth_eq, wordOfBytes_extract]
  cases decode w <;> rfl

end

/-- Decoding inverts encoding, format by format: the fields the decoder reads are the operands of the instruction. -/
theorem decode_encode (i : Instr) : decode (encode i) = .ok i := by
  cases i with
  | lb | lbu | lh | lhu | lw | lwu | ld | lwl | lwr | ldl | ldr | sb | sh | sw | sd | swl | swr | sdl | sdr
  | ll | sc | lld | scd | lwc1 | swc1 | ldc1 | sdc1 | lwc2 | swc2 | ldc2 | sdc2
  | addi | addiu | slti | sltiu | andi | ori | xori | daddi | daddiu | lui
  | beq | bne | blez | bgtz | beql | bnel | blezl | bgtzl
  | bltz | bgez | bltzal | bgezal | bltzl | bgezl | bltzall | bgezall | tgei | tgeiu | tlti | tltiu | teqi | tnei
  | cacheIndexInvalidateI | cacheIndexWriteBackInvalidateD | cacheIndexLoadTagI | cacheIndexLoadTagD
  | cacheIndexStoreTagI | cacheIndexStoreTagD | cacheCreateDirtyD | cacheHitInvalidateI | cacheHitInvalidateD
  | cacheFillI | cacheHitWriteBackInvalidateD | cacheHitWriteBackI | cacheHitWriteBackD => exact decode_iType ..
  | add | addu | sub | subu | slt | sltu | and | or | xor | nor | dadd | daddu | dsub | dsubu
  | sll | srl | sra | dsll | dsrl | dsra | dsll32 | dsrl32 | dsra32 | sllv | srlv | srav | dsllv | dsrlv | dsrav
  | mult | multu | div | divu | dmult | dmultu | ddiv | ddivu | mfhi | mthi | mflo | mtlo | madd16 | dmadd16
  | jr | jalr | sync => exact decode_rType ..
  | j | jal | cop1 | cop2 | cop3 => exact decode_jType _ _ fun _ _ _ => rfl
  | syscall | brk => exact decode_codeType _ _ fun _ _ _ _ => rfl
  | tge | tgeu | tlt | tltu | teq | tne => exact decode_trapType _ _ _ _ fun _ _ => rfl
  | mfc0 | mtc0 | dmfc0 | dmtc0 => exact decode_cp0MoveType ..
  | tlbr | tlbwi | tlbwr | tlbp | eret | standby | suspend | hibernate => exact decode_coType ..

/-- Every instruction of a decoder's answer has the encoding `w`. -/
def Encodes (w : Word32) (answer : Except DecodeError Instr) : Prop := ∀ i, answer = .ok i → encode i = w

@[simp] theorem encodes_ok {w : Word32} {i : Instr} : Encodes w (.ok i) ↔ encode i = w := by
  simp [Encodes]

@[simp] theorem encodes_error {w : Word32} {e : DecodeError} : Encodes w (.error e) := nofun

@[simp] theorem encodes_zeroField {w : Word32} {isZero : Bool} {i : Instr} :
    Encodes w (zeroField isZero i) ↔ (isZero = true → encode i = w) := by
  cases isZero <;> simp [zeroField]

/-- A field whose value a row of a table gives is that value. In the case splits below the last case is the one behind the
table's rows. -/
theorem eq_ofNat_of_toNat {n k : Nat} {x : BitVec n} (h : x.toNat = k) : x = BitVec.ofNat n k := by
  rw [← h, BitVec.ofNat_toNat, BitVec.setWidth_eq]

section

variable (op : BitVec 6) (rs rt rd : Reg) (sa : BitVec 5) (funct : BitVec 6) (imm : BitVec 16)

/-- The rows of the SPECIAL table: a field that is no operand is checked for zero, or is part of a code. -/
theorem decodeSpecial_encodes : Encodes (rType rs rt rd sa funct) (decodeSpecial rs rt rd sa funct) := by
  unfold decodeSpecial
  split
  case h_55 => exact encodes_error
  all_goals
    obtain rfl := eq_ofNat_of_toNat ‹funct.toNat = _›
    simp +contextual [encode, codeType_append, trapType_append]

/-- The rows of the REGIMM table. -/
theorem decodeRegimm_encodes : Encodes (iType 0x01 rs rt imm) (decodeRegimm rs rt imm) := by
  unfold decodeRegimm
  split
  case h_15 => exact encodes_error
  all_goals
    obtain rfl := eq_ofNat_of_toNat ‹rt.toNat = _›
    exact encodes_ok.2 rfl

/-- The rows of the CACHE table. -/
theorem decodeCache_encodes : Encodes (iType 0x2F rs rt imm) (decodeCache rs rt imm) := by
  unfold decodeCache
  split
  case h_14 => exact encodes_error
  all_goals
    obtain rfl := eq_ofNat_of_toNat ‹rt.toNat = _›
    exact encodes_ok.2 rfl

/-- The CO functions. -/
theorem decodeCo_encodes : Encodes (coType funct) (decodeCo funct) := by
  unfold decodeCo
  split
  case h_9 => exact encodes_error
  all_goals
    obtain rfl := eq_ofNat_of_toNat ‹funct.toNat = _›
    exact encodes_ok.2 rfl

/-- With bit 25 set a COP0 word is a CO function, and bits 24 to 6 must be zero (30:R167). -/
theorem decodeCop0_co (h : rs.getLsbD 4 = true) :
    decodeCop0 rs rt rd sa funct = (decodeCo funct).bind (zeroField (rs == 0x10 && rt == 0 && rd == 0 && sa == 0)) := by
  unfold decodeCop0
  split
  case h_5 =>
    obtain rfl := eq_ofNat_of_toNat ‹rs.toNat = _›
    rfl
  case h_6 =>
    have hrs : (rs == 0x10) = false := by
      refine beq_eq_false_iff_ne.2 fun e => ?_
      subst e
      contradiction
    rw [if_pos h, hrs]
    rfl
  all_goals
    obtain rfl := eq_ofNat_of_toNat ‹rs.toNat = _›
    exact absurd h (by decide)

theorem encodes_bind_zeroField {w : Word32} {isZero : Bool} {answer : Except DecodeError Instr} :
    Encodes w (answer.bind (zeroField isZero)) ↔ (isZero = true → Encodes w answer) := by
  cases answer <;> simp [Except.bind]

/-- The COP0 table. -/
theorem decodeCop0_encodes :
    Encodes (iType 0x10 rs rt (rd ++ sa ++ funct)) (decodeCop0 rs rt rd sa funct) := by
  by_cases co : rs.getLsbD 4 = true
  · rw [decodeCop0_co _ _ _ _ _ co, encodes_bind_zeroField]
    intro zero
    simp only [Bool.and_eq_true, beq_iff_eq] at zero
    obtain ⟨⟨⟨rfl, rfl⟩, rfl⟩, rfl⟩ := zero
    exact decodeCo_encodes funct
  · unfold decodeCop0
    split
    case h_5 =>
      obtain rfl := eq_ofNat_of_toNat ‹rs.toNat = _›
      exact absurd rfl co
    case h_6 => rw [if_neg co]; exact encodes_error
    all_goals
      obtain rfl := eq_ofNat_of_toNat ‹rs.toNat = _›
      simp +contextual [encode, cp0MoveType_eq]

/-- The major opcode table: SPECIAL, REGIMM, COP0 and CACHE by their own tables, the other rows one by one. -/
theorem decodeFields_encodes : Encodes (iType op rs rt imm) (decodeFields op rs rt imm) := by
  obtain ⟨rd, sa, funct, rfl⟩ : ∃ rd sa funct, imm = rd ++ sa ++ funct := ⟨_, _, _, (imm_fields imm).symm⟩
  unfold decodeFields
  simp only [imm_rd, imm_sa, imm_funct]
  split
  case h_59 => exact encodes_error
  all_goals obtain rfl := eq_ofNat_of_toNat ‹op.toNat = _›
  case h_1 => exact decodeSpecial_encodes _ _ _ _ _
  case h_2 => exact decodeRegimm_encodes _ _ _
  case h_17 => exact decodeCop0_encodes _ _ _ _ _
  case h_44 => exact decodeCache_encodes _ _ _
  all_goals simp +contextual [encode, jType_append]

end

/-- Encoding inverts decoding: each row keeps the fields it reads, and checks the others for zero. -/
theorem encode_of_decode {w : Word32} {i : Instr} (h : decode w = .ok i) : encode i = w := by
  rw [← iType_fields w] at h ⊢
  rw [decode_iType] at h
  exact decodeFields_encodes _ _ _ _ i h

end Sys2Proof

namespace Sys2Proof.Machine

/-- Settles O1. -/
theorem decodeEncode : Obligations.DecodeEncode := fun i =>
  ⟨decode_encode i, by rw [decodeTableWord_toNat, decode_encode]; rfl⟩

/-- Settles O2. -/
theorem encodeDecode : Obligations.EncodeDecode := fun _ _ h => encode_of_decode h

end Sys2Proof.Machine
end

section
/-! PROOFS. Words that are no instruction (30:R170, R171) and the 64-bit forms where they are disabled (30:R172): O4 and O28. -/

namespace Sys2Proof

section

variable (op : BitVec 6) (rs rt rd : Reg) (sa : BitVec 5) (funct : BitVec 6) (imm : BitVec 16)

/-- Every word is made of its six fields. -/
theorem exists_fields (w : Word32) : ∃ (op : BitVec 6) (rs rt rd : Reg) (sa : BitVec 5) (funct : BitVec 6),
    w = iType op rs rt (rd ++ sa ++ funct) :=
  ⟨_, _, _, _, _, _, by rw [imm_fields, iType_fields]⟩

theorem iType_funct : (iType op rs rt (rd ++ sa ++ funct)).extractLsb' 0 6 = funct :=
  (extract_append_low (op ++ rs ++ rt) (rd ++ sa ++ funct) 0 6 (by omega)).trans (imm_funct rd sa funct)

/-- A word is zero where each of its fields is. -/
theorem fields_eq_zero : iType op rs rt (rd ++ sa ++ funct) = 0
    ↔ op = 0 ∧ rs = 0 ∧ rt = 0 ∧ rd = 0 ∧ sa = 0 ∧ funct = 0 := by
  constructor
  · intro h
    have imm_zero : rd ++ sa ++ funct = (0 : BitVec 16) := by rw [← iType_imm op rs rt (rd ++ sa ++ funct), h]; rfl
    refine ⟨?_, ?_, ?_, ?_, ?_, ?_⟩
    · rw [← iType_op op rs rt (rd ++ sa ++ funct), h]; rfl
    · rw [← iType_rs op rs rt (rd ++ sa ++ funct), h]; rfl
    · rw [← iType_rt op rs rt (rd ++ sa ++ funct), h]; rfl
    · rw [← imm_rd rd sa funct, imm_zero]; rfl
    · rw [← imm_sa rd sa funct, imm_zero]; rfl
    · rw [← imm_funct rd sa funct, imm_zero]; rfl
  · rintro ⟨rfl, rfl, rfl, rfl, rfl, rfl⟩; rfl

/-- A mask acts on each field of a word. -/
theorem fields_and (op' : BitVec 6) (rs' rt' rd' : Reg) (sa' : BitVec 5) (funct' : BitVec 6) :
    iType op rs rt (rd ++ sa ++ funct) &&& iType op' rs' rt' (rd' ++ sa' ++ funct')
      = iType (op &&& op') (rs &&& rs') (rt &&& rt') ((rd &&& rd') ++ (sa &&& sa') ++ (funct &&& funct')) := by
  have high : (op ++ rs ++ rt) &&& (op' ++ rs' ++ rt') = (op &&& op') ++ (rs &&& rs') ++ (rt &&& rt') := by
    rw [BitVec.and_append, BitVec.and_append]
  have low : (rd ++ sa ++ funct) &&& (rd' ++ sa' ++ funct') = (rd &&& rd') ++ (sa &&& sa') ++ (funct &&& funct') := by
    rw [BitVec.and_append, BitVec.and_append]
  unfold iType
  rw [← high, ← low]
  exact BitVec.and_append

/-- Which fields a mask finds bits in. -/
theorem fields_and_eq_zero {mask : Word32} (op' : BitVec 6) (rs' rt' rd' : Reg) (sa' : BitVec 5) (funct' : BitVec 6)
    (h : mask = iType op' rs' rt' (rd' ++ sa' ++ funct')) :
    iType op rs rt (rd ++ sa ++ funct) &&& mask = 0 ↔ op &&& op' = 0 ∧ rs &&& rs' = 0 ∧ rt &&& rt' = 0 ∧ rd &&& rd' = 0
      ∧ sa &&& sa' = 0 ∧ funct &&& funct' = 0 := by
  rw [h, fields_and, fields_eq_zero]

/-- A mask of a whole register field. -/
@[simp] theorem and_ones5 (x : BitVec 5) : x &&& 31#5 = x := BitVec.and_allOnes (x := x)

/-- A mask of a whole function field. -/
@[simp] theorem and_ones6 (x : BitVec 6) : x &&& 63#6 = x := BitVec.and_allOnes (x := x)

/-! The masks of the must-be-zero fields of 30:R171, each by the fields it covers. -/

theorem mask_sa : iType op rs rt (rd ++ sa ++ funct) &&& 0x000007C0 = 0 ↔ sa = 0 :=
  (fields_and_eq_zero _ _ _ _ _ _ 0 0 0 0 31 0 rfl).trans (by simp)

theorem mask_rs : iType op rs rt (rd ++ sa ++ funct) &&& 0x03E00000 = 0 ↔ rs = 0 :=
  (fields_and_eq_zero _ _ _ _ _ _ 0 31 0 0 0 0 rfl).trans (by simp)

theorem mask_rt : iType op rs rt (rd ++ sa ++ funct) &&& 0x001F0000 = 0 ↔ rt = 0 :=
  (fields_and_eq_zero _ _ _ _ _ _ 0 0 31 0 0 0 rfl).trans (by simp)

theorem mask_rd_sa : iType op rs rt (rd ++ sa ++ funct) &&& 0x0000FFC0 = 0 ↔ rd = 0 ∧ sa = 0 :=
  (fields_and_eq_zero _ _ _ _ _ _ 0 0 0 31 31 0 rfl).trans (by simp)

theorem mask_rs_rt_sa : iType op rs rt (rd ++ sa ++ funct) &&& 0x03FF07C0 = 0 ↔ rs = 0 ∧ rt = 0 ∧ sa = 0 :=
  (fields_and_eq_zero _ _ _ _ _ _ 0 31 31 0 31 0 rfl).trans (by simp)

theorem mask_rt_rd_sa : iType op rs rt (rd ++ sa ++ funct) &&& 0x001FFFC0 = 0 ↔ rt = 0 ∧ rd = 0 ∧ sa = 0 :=
  (fields_and_eq_zero _ _ _ _ _ _ 0 0 31 31 31 0 rfl).trans (by simp)

theorem mask_rt_sa : iType op rs rt (rd ++ sa ++ funct) &&& 0x001F07C0 = 0 ↔ rt = 0 ∧ sa = 0 :=
  (fields_and_eq_zero _ _ _ _ _ _ 0 0 31 0 31 0 rfl).trans (by simp)

theorem mask_rs_rt_rd_sa :
    iType op rs rt (rd ++ sa ++ funct) &&& 0x03FFFFC0 = 0 ↔ rs = 0 ∧ rt = 0 ∧ rd = 0 ∧ sa = 0 :=
  (fields_and_eq_zero _ _ _ _ _ _ 0 31 31 31 31 0 rfl).trans (by simp)

theorem mask_sa_funct : iType op rs rt (rd ++ sa ++ funct) &&& 0x000007FF = 0 ↔ sa = 0 ∧ funct = 0 :=
  (fields_and_eq_zero _ _ _ _ _ _ 0 0 0 0 31 63 rfl).trans (by simp)

/-- Bits 24 to 6, of a word with bit 25 set. -/
theorem mask_co (h : rs.getLsbD 4 = true) :
    iType op rs rt (rd ++ sa ++ funct) &&& 0x01FFFFC0 = 0 ↔ rs = 0x10 ∧ rt = 0 ∧ rd = 0 ∧ sa = 0 := by
  have low : rs &&& 15 = 0 ↔ rs = 0x10 := by revert rs; decide
  exact (fields_and_eq_zero _ _ _ _ _ _ 0 15 31 31 31 0 rfl).trans (by rw [low]; simp)

end

/-- An instruction with a bit in a must-be-zero field is none (30:R171). -/
theorem zeroField_of_false {isZero : Bool} (h : isZero = false) (i : Instr) :
    zeroField isZero i = .error .nonZeroField := by
  rw [h]; rfl

section

variable {op : BitVec 6} {rs rt rd : Reg} {sa : BitVec 5} {funct : BitVec 6} {imm : BitVec 16}

/-- The reserved major opcodes (30:R164). -/
theorem decodeFields_reserved (h : op ∈ [0x1C#6, 0x1D, 0x1E, 0x1F, 0x33, 0x3B]) :
    decodeFields op rs rt imm = .error .reserved := by
  revert op
  simp only [List.forall_mem_cons, List.not_mem_nil, false_imp_iff, implies_true, and_true]
  and_intros <;> rfl

/-- The holes of the SPECIAL table (30:R165). -/
theorem decodeSpecial_reserved (h : funct ∈ [0x01#6, 0x05, 0x0A, 0x0B, 0x0E, 0x15, 0x35, 0x37, 0x39, 0x3D]) :
    decodeSpecial rs rt rd sa funct = .error .reserved := by
  revert funct
  simp only [List.forall_mem_cons, List.not_mem_nil, false_imp_iff, implies_true, and_true]
  and_intros <;> rfl

/-- The holes of the REGIMM table (30:R166). -/
theorem decodeRegimm_reserved
    (h : rt ∉ [0x00#5, 0x01, 0x02, 0x03, 0x08, 0x09, 0x0A, 0x0B, 0x0C, 0x0E, 0x10, 0x11, 0x12, 0x13]) :
    decodeRegimm rs rt imm = .error .reserved := by
  unfold decodeRegimm
  split
  case h_15 => rfl
  all_goals
    obtain rfl := eq_ofNat_of_toNat ‹rt.toNat = _›
    exact absurd (by decide) h

/-- The holes of the CACHE table (30:R169). -/
theorem decodeCache_undefined
    (h : rt ∉ [0x00#5, 0x01, 0x04, 0x05, 0x08, 0x09, 0x0D, 0x10, 0x11, 0x14, 0x15, 0x18, 0x19]) :
    decodeCache rs rt imm = .error .undefinedCacheOp := by
  unfold decodeCache
  split
  case h_14 => rfl
  all_goals
    obtain rfl := eq_ofNat_of_toNat ‹rt.toNat = _›
    exact absurd (by decide) h

/-- The holes of the table of CO functions (30:R167). -/
theorem decodeCo_undefined (h : funct ∉ [0x01#6, 0x02, 0x06, 0x08, 0x18, 0x21, 0x22, 0x23]) :
    decodeCo funct = .error .undefinedCop0 := by
  unfold decodeCo
  split
  case h_9 => rfl
  all_goals
    obtain rfl := eq_ofNat_of_toNat ‹funct.toNat = _›
    exact absurd (by decide) h

/-- The rows of the table of CO functions (30:R167). -/
theorem decodeCo_defined (h : funct ∈ [0x01#6, 0x02, 0x06, 0x08, 0x18, 0x21, 0x22, 0x23]) :
    ∃ i, decodeCo funct = .ok i := by
  revert funct
  simp only [List.forall_mem_cons, List.not_mem_nil, false_imp_iff, implies_true, and_true]
  and_intros <;> exact ⟨_, rfl⟩

/-- The holes of the COP0 table (30:R167). -/
theorem decodeCop0_undefined (h : (rs.getLsbD 4 = false ∧ rs ∉ [0#5, 1, 4, 5])
      ∨ (rs.getLsbD 4 = true ∧ funct ∉ [0x01#6, 0x02, 0x06, 0x08, 0x18, 0x21, 0x22, 0x23])) :
    decodeCop0 rs rt rd sa funct = .error .undefinedCop0 := by
  obtain ⟨move, unlisted⟩ | ⟨co, unlisted⟩ := h
  · unfold decodeCop0
    split
    case h_6 => rw [if_neg (by rw [move]; exact Bool.false_ne_true)]
    all_goals obtain rfl := eq_ofNat_of_toNat ‹rs.toNat = _›
    case h_5 => exact absurd move (by decide)
    all_goals exact absurd (by decide) unlisted
  · rw [decodeCop0_co _ _ _ _ _ co, decodeCo_undefined unlisted]
    rfl

/-- The rows of the SPECIAL table with must-be-zero fields that are not zero, by the fields they check (30:R165, R171). -/
theorem decodeSpecial_nonZeroField
    (h : (funct ∈ [0x04#6, 0x06, 0x07, 0x14, 0x16, 0x17, 0x20, 0x21, 0x22, 0x23, 0x24, 0x25, 0x26, 0x27, 0x2A, 0x2B, 0x2C,
          0x2D, 0x2E, 0x2F] ∧ ¬sa = 0)
      ∨ (funct ∈ [0x00#6, 0x02, 0x03, 0x38, 0x3A, 0x3B, 0x3C, 0x3E, 0x3F] ∧ ¬rs = 0)
      ∨ (funct ∈ [0x18#6, 0x19, 0x1A, 0x1B, 0x1C, 0x1D, 0x1E, 0x1F, 0x28, 0x29] ∧ ¬(rd = 0 ∧ sa = 0))
      ∨ (funct ∈ [0x10#6, 0x12] ∧ ¬(rs = 0 ∧ rt = 0 ∧ sa = 0))
      ∨ (funct ∈ [0x08#6, 0x11, 0x13] ∧ ¬(rt = 0 ∧ rd = 0 ∧ sa = 0))
      ∨ (funct ∈ [0x09#6] ∧ ¬(rt = 0 ∧ sa = 0))
      ∨ (funct ∈ [0x0F#6] ∧ ¬(rs = 0 ∧ rt = 0 ∧ rd = 0 ∧ sa = 0))) :
    decodeSpecial rs rt rd sa funct = .error .nonZeroField := by
  obtain ⟨row, hz⟩ | ⟨row, hz⟩ | ⟨row, hz⟩ | ⟨row, hz⟩ | ⟨row, hz⟩ | ⟨row, hz⟩ | ⟨row, hz⟩ := h
  all_goals
    revert funct
    simp only [List.forall_mem_cons, List.not_mem_nil, false_imp_iff, implies_true, and_true]
    and_intros <;> exact zeroField_of_false (by simpa [and_assoc] using hz) _

/-- The major opcodes with a must-be-zero register field that is not zero (30:R164, R171). -/
theorem decodeFields_nonZeroField
    (h : (op ∈ [0x06#6, 0x07, 0x16, 0x17] ∧ ¬rt = 0) ∨ (op ∈ [0x0F#6] ∧ ¬rs = 0)) :
    decodeFields op rs rt imm = .error .nonZeroField := by
  obtain ⟨row, hz⟩ | ⟨row, hz⟩ := h
  all_goals
    revert op
    simp only [List.forall_mem_cons, List.not_mem_nil, false_imp_iff, implies_true, and_true]
    and_intros <;> exact zeroField_of_false (beq_eq_false_iff_ne.2 hz) _

/-- A CP0 move with a bit below its registers (30:R167, R171). -/
theorem decodeCop0_move_nonZeroField (h : rs ∈ [0#5, 1, 4, 5]) (hz : ¬(sa = 0 ∧ funct = 0)) :
    decodeCop0 rs rt rd sa funct = .error .nonZeroField := by
  revert rs
  simp only [List.forall_mem_cons, List.not_mem_nil, false_imp_iff, implies_true, and_true]
  and_intros <;> exact zeroField_of_false (by simpa using hz) _

/-- A CO function with a bit among bits 24 to 6 (30:R167, R171). -/
theorem decodeCop0_co_nonZeroField (co : rs.getLsbD 4 = true)
    (h : funct ∈ [0x01#6, 0x02, 0x06, 0x08, 0x18, 0x21, 0x22, 0x23]) (hz : ¬(rs = 0x10 ∧ rt = 0 ∧ rd = 0 ∧ sa = 0)) :
    decodeCop0 rs rt rd sa funct = .error .nonZeroField := by
  obtain ⟨i, hi⟩ := decodeCo_defined h
  rw [decodeCop0_co _ _ _ _ _ co, hi]
  exact zeroField_of_false (by simpa [and_assoc] using hz) i

end

end Sys2Proof

namespace Sys2Proof.Machine

/-- What the model refuses a word for that is no instruction (U24, U25, log 34); a reserved word is not refused. -/
def refusalOf : DecodeError → Option Refusal
  | .reserved => none
  | .undefinedCop0 => some .undefinedCop0
  | .undefinedCacheOp => some .undefinedCacheOp
  | .nonZeroField => some .nonZeroField

section

variable {w : Word32} {s : State}

/-- A reserved word outside the opcodes that need CP0 raises RI (30:R170). -/
theorem State.execWord_reserved (h : decode w = .error .reserved) (hcp0 : needsCp0 w = false) :
    s.execWord w = .next (s.takeException .ri) := by
  rw [State.execWord, h]
  simp [State.undecodable, State.raise, hcp0]

/-- A word without meaning outside the opcodes that need CP0 is refused (log 34). -/
theorem State.execWord_refused {e : DecodeError} {r : Refusal} (h : decode w = .error e) (hr : refusalOf e = some r)
    (hcp0 : needsCp0 w = false) : s.execWord w = .refused r := by
  rw [State.execWord, h]
  cases e <;> cases hr <;> simp [State.undecodable, hcp0]

/-- A word without meaning under an opcode that needs CP0 raises CpU(0) where CP0 is not usable, and is refused where it is
(45:R360, log 34). -/
theorem State.execWord_cp0 {e : DecodeError} {r : Refusal} (h : decode w = .error e) (hr : refusalOf e = some r)
    (hcp0 : needsCp0 w = true) :
    s.execWord w = if s.cp0Usable then .refused r else .next (s.takeException (.cpU 0)) := by
  rw [State.execWord, h]
  cases usable : s.cp0Usable <;> cases e <;> cases hr <;> simp [State.undecodable, State.raise, hcp0, usable]

end

/-- Which words need CP0, by the major opcode. -/
theorem needsCp0_iType (op : BitVec 6) (rs rt : Reg) (imm : BitVec 16) :
    needsCp0 (iType op rs rt imm) = (op == 0x10 || op == 0x2F) := by
  rw [needsCp0, iType_op]

/-- Settles O4. -/
theorem reservedEncodings : Obligations.ReservedEncodings := by
  intro w s
  obtain ⟨op, rs, rt, rd, sa, funct, rfl⟩ := exists_fields w
  have other (h : (op == 0x10 || op == 0x2F) = false) := (needsCp0_iType op rs rt (rd ++ sa ++ funct)).trans h
  have cop0 : needsCp0 (iType 0x10 rs rt (rd ++ sa ++ funct)) = true := needsCp0_iType ..
  simp only [iType_op, iType_rs, iType_rt, iType_funct, ne_eq, mask_sa, mask_rs, mask_rt, mask_rd_sa, mask_rs_rt_sa,
    mask_rt_rd_sa, mask_rt_sa, mask_rs_rt_rd_sa, mask_sa_funct, ← List.mem_singleton (b := (0x09 : BitVec 6)),
    ← List.mem_singleton (b := (0x0F : BitVec 6))]
  refine ⟨fun h => ?_, fun hop h => ?_, fun hop h => ?_, fun hop h => ?_, fun hop h => ?_, fun hop h => ?_, fun h => ?_,
    fun hop h => ?_⟩
  · have plain : ∀ op ∈ [0x1C#6, 0x1D, 0x1E, 0x1F, 0x33, 0x3B], (op == 0x10 || op == 0x2F) = false := by decide
    exact State.execWord_reserved ((decode_iType ..).trans (decodeFields_reserved h)) (other (plain op h))
  · subst hop
    exact State.execWord_reserved ((decode_rType ..).trans (decodeSpecial_reserved h)) (other rfl)
  · subst hop
    exact State.execWord_reserved ((decode_iType ..).trans (decodeRegimm_reserved h)) (other rfl)
  · subst hop
    exact State.execWord_cp0 ((decode_cop0 ..).trans (decodeCop0_undefined h)) rfl cop0
  · subst hop
    exact State.execWord_cp0 ((decode_iType ..).trans (decodeCache_undefined h)) rfl (needsCp0_iType ..)
  · subst hop
    exact State.execWord_refused ((decode_rType ..).trans (decodeSpecial_nonZeroField h)) rfl (other rfl)
  · have plain : ∀ op, op ∈ [0x06#6, 0x07, 0x16, 0x17] ∨ op ∈ [0x0F#6] → (op == 0x10 || op == 0x2F) = false := by decide
    exact State.execWord_refused ((decode_iType ..).trans (decodeFields_nonZeroField h)) rfl
      (other (plain op (h.imp And.left And.left)))
  · subst hop
    obtain ⟨move, hz⟩ | ⟨co, listed, hz⟩ := h
    · exact State.execWord_cp0 ((decode_cop0 ..).trans (decodeCop0_move_nonZeroField move hz)) rfl cop0
    · rw [mask_co _ _ _ _ _ _ co] at hz
      exact State.execWord_cp0 ((decode_cop0 ..).trans (decodeCop0_co_nonZeroField co listed hz)) rfl cop0

/-- Where 64-bit operations are disabled, what needs them raises RI, whatever it is (30:R172). -/
theorem State.requires64_disabled {s : State} (h64 : s.is64bitOps = false) (hmode : s.mode ≠ .undefined)
    (k : Host.Outcome State Fault Refusal) : s.requires64 k = .next (s.takeException .ri) := by
  rw [State.requires64, if_neg (by simp [h64]), if_neg hmode, State.raise]

/-- Settles O28: all but LLD and SCD, which are reserved in any mode (44:R347, R348), are checked for 64-bit operations first. -/
theorem sixtyFourBitDisabled : Obligations.SixtyFourBitDisabled := by
  intro rs rt rd imm sa s h64 hmode
  have disabled := State.requires64_disabled h64 hmode
  simp only [List.forall_mem_cons, List.not_mem_nil, false_imp_iff, implies_true, and_true]
  refine ⟨?_, fun usable => ⟨(if_pos usable).trans (disabled _), (if_pos usable).trans (disabled _)⟩⟩
  iterate 27 refine ⟨disabled _, ?_⟩
  exact ⟨rfl, rfl⟩

end Sys2Proof.Machine
end

section
/-! PROOFS. Loads and stores where nothing is in error: O42 to O45 (40:R201 to R219), each form by the bytes its part of memory
holds or receives and by what the register makes of them. -/

namespace Sys2Proof.Machine

/-! The bytes of a part (20:R110, R114). -/

/-- Bytes put together make no more than their number allows. -/
theorem assemble_false_toNat_lt : ∀ bytes : List Byte, (assemble false bytes).toNat < 2 ^ (8 * bytes.length)
  | [] => Nat.two_pow_pos _
  | b :: bytes => by
    have high : (assemble false bytes <<< 8).toNat < 2 ^ (8 * (bytes.length + 1)) := by
      have ih := assemble_false_toNat_lt bytes
      rw [BitVec.toNat_shiftLeft, Nat.shiftLeft_eq]
      exact (Nat.mod_le _ _).trans_lt (by rw [Nat.mul_add_one 8, Nat.pow_add]; omega)
    have low : (b.setWidth 64).toNat < 2 ^ (8 * (bytes.length + 1)) := by
      rw [BitVec.toNat_setWidth]
      exact (Nat.mod_le _ _).trans_lt (b.isLt.trans_le (Nat.pow_le_pow_right (by decide) (by omega)))
    rw [assemble_cons, BitVec.toNat_or]
    exact Nat.or_lt_two_pow high low

/-- A value read has the bytes of its part and no others. -/
theorem State.valueAt_toNat_lt (tr : Translation) (part : Part) (s : State) :
    (s.valueAt tr part).toNat < 2 ^ (8 * part.count) := by
  have bound (bytes : List Byte) : (assemble s.bigEndianCpu bytes).toNat < 2 ^ (8 * bytes.length) := by
    cases s.bigEndianCpu with
    | false => exact assemble_false_toNat_lt bytes
    | true => exact List.length_reverse (as := bytes) ▸ assemble_false_toNat_lt bytes.reverse
  have value := bound ((s.laneAddresses tr.pa part).map (s.readAs tr.cached))
  rwa [List.length_map, State.laneAddresses_length] at value

/-- Zero extension keeps a value of that width (00:R7). -/
theorem loadUnsigned_of_lt {w : Nat} {x : DWord} (h : x.toNat < 2 ^ w) : loadUnsigned w x = x := by
  rw [← BitVec.toNat_inj, loadUnsigned_toNat, Nat.mod_eq_of_lt h, Nat.mod_eq_of_lt x.isLt]

theorem partToEnd_count_le (m : Nat) (va : DWord) : (partToEnd m va).count ≤ m := Nat.sub_le ..

theorem partFromStart_count_le {m : Nat} (hm : 0 < m) (va : DWord) : (partFromStart m va).count ≤ m :=
  Nat.mod_lt _ hm

theorem leftPart_count_le {m : Nat} (hm : 0 < m) (bigEndian : Bool) (va : DWord) : (leftPart m bigEndian va).count ≤ m := by
  cases bigEndian with
  | false => exact partFromStart_count_le hm va
  | true => exact partToEnd_count_le m va

theorem rightPart_count_le {m : Nat} (hm : 0 < m) (bigEndian : Bool) (va : DWord) : (rightPart m bigEndian va).count ≤ m := by
  cases bigEndian with
  | false => exact partToEnd_count_le m va
  | true => exact partFromStart_count_le hm va

/-! What the register keeps beside the bytes read, and what it gives to memory (40:R208 to R211, R216, R218). -/

theorem low32_or (x y : DWord) : low32 (x ||| y) = low32 x ||| low32 y := BitVec.extractLsb'_or

theorem low32_and (x y : DWord) : low32 (x &&& y) = low32 x &&& low32 y := BitVec.extractLsb'_and

theorem low32_eq_setWidth (x : DWord) : low32 x = x.setWidth 32 := (BitVec.setWidth_eq_extractLsb' (by decide)).symm

theorem low32_ofNat (k : Nat) : low32 (BitVec.ofNat 64 k) = BitVec.ofNat 32 k :=
  (low32_eq_setWidth _).trans (BitVec.setWidth_ofNat_of_le (by decide) k)

theorem low32_shiftLeft (x : DWord) (k : Nat) : low32 (x <<< k) = low32 x <<< k := by
  rw [low32_eq_setWidth, low32_eq_setWidth]
  refine BitVec.eq_of_getLsbD_eq fun i hi => ?_
  rw [BitVec.getLsbD_setWidth, BitVec.getLsbD_shiftLeft, BitVec.getLsbD_shiftLeft, BitVec.getLsbD_setWidth]
  simp [hi, show i < 64 by omega, show i - k < 32 by omega]

theorem low32_ushiftRight_setWidth (x : Word32) (k : Nat) : low32 (x.setWidth 64 >>> k) = x >>> k := by
  rw [low32_eq_setWidth]
  refine BitVec.eq_of_getLsbD_eq fun i hi => ?_
  rw [BitVec.getLsbD_setWidth, BitVec.getLsbD_ushiftRight, BitVec.getLsbD_ushiftRight, BitVec.getLsbD_setWidth]
  by_cases inside : k + i < 64
  · simp [hi, inside]
  · simp [inside, BitVec.getLsbD_of_ge x (k + i) (by omega)]

/-- The low word of a merge is the merge of the low words (40:R208). -/
theorem mergeLwl_eq (n : Nat) (old b : DWord) :
    mergeLwl n old b = sext32 ((low32 b <<< (8 * (4 - n)))
      ||| (low32 old &&& BitVec.ofNat 32 (2 ^ (8 * (4 - n)) - 1))) := by
  rw [mergeLwl, mergeLeft, low32_or, low32_shiftLeft, low32_and, low32_ofNat]

/-- The word that LWR merges (40:R209). -/
theorem low32_mergeRight (n : Nat) (old b : DWord) :
    low32 (mergeRight n ((low32 old).setWidth 64) b) = ((low32 old >>> (8 * n)) <<< (8 * n)) ||| low32 b := by
  rw [mergeRight, low32_or, low32_shiftLeft, low32_ushiftRight_setWidth]

/-- LWR extends the merged word, but may keep the upper half of a register that held no word where bit 31 is not loaded (40:R209,
U10). -/
theorem mergeLwr_cases (extend : Bool) (n : Nat) (old b : DWord) :
    let word := ((low32 old >>> (8 * n)) <<< (8 * n)) ||| low32 b
    mergeLwr extend n old b = sext32 word
      ∨ (n ≠ 4 ∧ isWord old = false ∧ mergeLwr extend n old b = high32 old ++ word) := by
  simp only [mergeLwr, low32_mergeRight]
  split
  · exact .inl rfl
  · rename_i kept
    simp only [Bool.or_eq_true, decide_eq_true_eq, not_or, Bool.not_eq_true] at kept
    obtain ⟨⟨part, noWord⟩, -⟩ := kept
    exact .inr ⟨part, noWord, rfl⟩

/-- What SWL stores, by numbers (40:R216). -/
theorem swlValue_eq (n : Nat) (v : DWord) :
    swlValue n v = BitVec.ofNat 64 (v.toNat % 2 ^ 32 / 2 ^ (8 * (4 - n))) := by
  have wide : v.toNat % 2 ^ 32 < 2 ^ 64 := (Nat.mod_lt _ (by decide)).trans (by decide)
  have less := (Nat.div_le_self (v.toNat % 2 ^ 32) (2 ^ (8 * (4 - n)))).trans_lt wide
  rw [← BitVec.toNat_inj, BitVec.toNat_ofNat, Nat.mod_eq_of_lt less, swlValue, BitVec.toNat_ushiftRight, BitVec.toNat_setWidth,
    low32, BitVec.extractLsb'_toNat, Nat.shiftRight_zero, Nat.mod_eq_of_lt wide, Nat.shiftRight_eq_div_pow]

/-- What SDL stores, by numbers (40:R218). -/
theorem sdlValue_eq (n : Nat) (v : DWord) : sdlValue n v = BitVec.ofNat 64 (v.toNat / 2 ^ (8 * (8 - n))) := by
  have less := (Nat.div_le_self v.toNat (2 ^ (8 * (8 - n)))).trans_lt v.isLt
  rw [← BitVec.toNat_inj, BitVec.toNat_ofNat, Nat.mod_eq_of_lt less, sdlValue, BitVec.toNat_ushiftRight,
    Nat.shiftRight_eq_div_pow]

/-! The four shapes of a load or store, in the terms of the statements. -/

theorem LoadsRegister.requires64 {s : State} {k : Host.Outcome State Fault Refusal} {cached : Bool} {rt : Reg} {v : DWord}
    (h64 : s.is64bitOps = true) (h : LoadsRegister k s cached rt v) : LoadsRegister (s.requires64 k) s cached rt v := by
  rwa [State.requires64, if_pos h64]

theorem StoresBytes.requires64 {s : State} {k : Host.Outcome State Fault Refusal} {cached : Bool} {addrs : List PAddr}
    {bytes : List Byte} (h64 : s.is64bitOps = true) (h : StoresBytes k s cached addrs bytes) :
    StoresBytes (s.requires64 k) s cached addrs bytes := by
  rwa [State.requires64, if_pos h64]

section

variable {s : State} {base : Reg} {offset : BitVec 16} {tr : Translation} (clean : s.Clean)
include clean

theorem State.Clean.execLoad_loadsRegister {n : Nat} {rt : Reg} {f : DWord → DWord} {v : DWord}
    (reaches : s.Reaches (s.effectiveAddress base offset) .load tr) (aligned : (s.effectiveAddress base offset).toNat % n = 0)
    (value : f (s.valueAt tr { start := s.effectiveAddress base offset, count := n }) = v) :
    LoadsRegister (s.execLoad base rt offset n f) s tr.cached rt v := by
  obtain ⟨t, loaded, after⟩ := State.execLoad_readable aligned reaches (clean.readable tr.cached) rt f
  rw [loaded, value]
  exact after.loadsRegister rt v

/-- An unaligned load merges what its part of memory holds with what the register held before it (20:R114). -/
theorem State.Clean.execLoadPart_loadsRegister {rt : Reg} {part : Bool → DWord → Part} {merge : Nat → DWord → DWord → DWord}
    {p : Part} {v : DWord} (reaches : s.Reaches (s.effectiveAddress base offset) .load tr)
    (bytes : part s.bigEndianCpu (s.effectiveAddress base offset) = p)
    (value : merge p.count (s.reg rt) (s.valueAt tr p) = v) :
    LoadsRegister (s.execLoadPart base rt offset part merge) s tr.cached rt v := by
  obtain ⟨t, loaded, after⟩ := State.loadPart_readable reaches (clean.readable tr.cached) p
  have completes : s.execLoadPart base rt offset part merge = .next (t.writeReg rt v) := by
    rw [State.execLoadPart, bytes, loaded, ← value, ← after.core.reg rt]
    rfl
  rw [completes]
  exact after.loadsRegister rt v

theorem State.Clean.execStore_storesBytes {n : Nat} {rt : Reg} (reaches : s.Reaches (s.effectiveAddress base offset) .store tr)
    (aligned : (s.effectiveAddress base offset).toNat % n = 0) (short : n ≤ 8) :
    StoresBytes (s.execStore base rt offset n) s tr.cached
      (s.laneAddresses tr.pa { start := s.effectiveAddress base offset, count := n })
      (orderedBytes s.bigEndianCpu n (s.reg rt)) := by
  obtain ⟨t, stored, after⟩ := State.execStore_clean aligned short reaches clean rt
  rw [stored]
  exact after.storesBytes

/-- An unaligned store gives its part of memory the bytes it takes of the register (20:R114). -/
theorem State.Clean.execStorePart_storesBytes {rt : Reg} {part : Bool → DWord → Part} {value : Nat → DWord → DWord} {p : Part}
    {v : DWord} (reaches : s.Reaches (s.effectiveAddress base offset) .store tr)
    (bytes : part s.bigEndianCpu (s.effectiveAddress base offset) = p) (short : p.count ≤ 8)
    (taken : value p.count (s.reg rt) = v) :
    StoresBytes (s.execStorePart base rt offset part value) s tr.cached (s.laneAddresses tr.pa p)
      (orderedBytes s.bigEndianCpu p.count v) := by
  obtain ⟨t, stored, after⟩ := State.storePart_clean reaches clean short v
  have completes : s.execStorePart base rt offset part value = .next t.advance := by
    rw [State.execStorePart, bytes, taken, stored]
    rfl
  rw [completes]
  exact after.storesBytes

end

/-! The obligations. -/

/-- Settles O42: a load of `n` bytes has a value of `n` bytes, which zero extension keeps. -/
theorem alignedLoads : Obligations.AlignedLoads := by
  intro base rt offset s tr va value signed loads clean reaches
  have load {n : Nat} (aligned : va.toNat % n = 0) {f : DWord → DWord} {v : DWord} (extended : f (value n) = v) :
      LoadsRegister (s.execLoad base rt offset n f) s tr.cached rt v :=
    clean.execLoad_loadsRegister reaches aligned extended
  have zero (n : Nat) : loadUnsigned (8 * n) (value n) = value n := loadUnsigned_of_lt (State.valueAt_toNat_lt ..)
  have sign (n : Nat) : loadSigned (8 * n) (value n) = signed n := loadSigned_eq_ofInt_bmod ..
  exact ⟨load (Nat.mod_one _) (sign 1), load (Nat.mod_one _) (zero 1), fun h2 => ⟨load h2 (sign 2), load h2 (zero 2)⟩,
    fun h4 => ⟨load h4 (sign 4), fun h64 => (load h4 (zero 4)).requires64 h64⟩,
    fun h8 h64 => (load h8 (f := id) rfl).requires64 h64⟩

/-- Settles O43: each form merges its part of the word or doubleword as the statement writes it out. -/
theorem unalignedLoads : Obligations.UnalignedLoads := by
  intro base rt offset s tr va old up down left right l4 r4 l8 r8 wr loads clean reaches
  refine ⟨?lwl, ⟨mergeLwr (s.freeBit .lwrExtends) r4 old (s.valueAt tr (right 4)), ?lwr, mergeLwr_cases ..⟩,
    fun h64 => ⟨LoadsRegister.requires64 h64 ?ldl, LoadsRegister.requires64 h64 ?ldr⟩⟩
  case lwl => exact clean.execLoadPart_loadsRegister reaches rfl (mergeLwl_eq l4 old (s.valueAt tr (left 4)))
  case lwr => exact clean.execLoadPart_loadsRegister reaches rfl rfl
  case ldl => exact clean.execLoadPart_loadsRegister reaches rfl rfl
  case ldr => exact clean.execLoadPart_loadsRegister reaches rfl rfl

/-- Settles O44. -/
theorem alignedStores : Obligations.AlignedStores := by
  intro base rt offset s tr va stores clean reaches
  have store {n : Nat} (aligned : va.toNat % n = 0) (short : n ≤ 8) :=
    clean.execStore_storesBytes (rt := rt) reaches aligned short
  exact ⟨store (Nat.mod_one _) (by decide), fun h2 => store h2 (by decide), fun h4 => store h4 (by decide),
    fun h8 h64 => (store h8 (by decide)).requires64 h64⟩

/-- Settles O45: the left forms take the bytes of the register that the statement takes by numbers. -/
theorem unalignedStores : Obligations.UnalignedStores := by
  intro base rt offset s tr va v up down left right stores clean reaches
  have left_le {m : Nat} (hm : 0 < m) : (left m).count ≤ m := leftPart_count_le hm s.bigEndianCpu va
  have right_le {m : Nat} (hm : 0 < m) : (right m).count ≤ m := rightPart_count_le hm s.bigEndianCpu va
  refine ⟨?swl, ?swr, fun h64 => ⟨StoresBytes.requires64 h64 ?sdl, StoresBytes.requires64 h64 ?sdr⟩⟩
  case swl =>
    exact clean.execStorePart_storesBytes reaches rfl ((left_le (by decide)).trans (by decide)) (swlValue_eq (left 4).count v)
  case swr => exact clean.execStorePart_storesBytes reaches rfl ((right_le (by decide)).trans (by decide)) rfl
  case sdl => exact clean.execStorePart_storesBytes reaches rfl (left_le (by decide)) (sdlValue_eq (left 8).count v)
  case sdr => exact clean.execStorePart_storesBytes reaches rfl (right_le (by decide)) rfl

end Sys2Proof.Machine
end

section
/-! PROOFS. The words that spec 40 to 46 write out: O3. -/

namespace Sys2Proof.Machine

/-- A word that encodes an instruction decodes to it. -/
theorem decode_of_encode_eq {w : Word32} {i : Instr} (h : encode i = w) : decode w = .ok i := h ▸ decode_encode i

/-- Settles O3: each word is the encoding of the instruction the spec names for it, and the decoder reads it back. -/
theorem specWordsDecode : Obligations.SpecWordsDecode := by
  unfold Obligations.SpecWordsDecode
  iterate 21 refine ⟨decode_of_encode_eq (by decide), ?_⟩
  exact decode_of_encode_eq (by decide)

end Sys2Proof.Machine
end

section
/-! PROOFS. The computational instructions (spec 41): O22 to O27. First the frame of a register write and of the operations that
end in one, then each result as the integer the spec gives, then the obligations. -/

namespace Sys2Proof.Machine

/-! The shared endings of the instructions (10:R21, R25; 41:R230, R270, R271). -/

section

variable (s : State) (r : Reg)

/-- The frame of an instruction that writes one general register, with its value stated in any equal form. -/
theorem State.result_writes {v w : DWord} (h : v = w) : WritesRegister (s.result r v) s r w := by
  subst h
  refine ⟨s.writeReg r v, rfl, State.reg_setReg_same .., fun r' hr => ?_, ?_, ?_,
    (SameCore.refl s).writeReg_keepsControl r v, ?_⟩
  · exact State.reg_setReg_other _ _ (List.ne_of_not_mem_cons hr)
  · rw [State.writeReg, State.setReg_eq]; exact ⟨rfl, rfl⟩
  · rw [State.writeReg, State.setReg_eq]; constructor <;> rfl
  · exact ⟨State.setReg_mem .., State.setReg_icache .., State.setReg_dcache ..,
      State.byteAt_congr (State.setReg_dcache ..) (State.setReg_mem ..)⟩

theorem State.wordResult_writes_some (defined : Bool) (v : Word32) : ∃ w, WritesRegister (s.wordResult r defined v) s r w :=
  ⟨_, s.result_writes r rfl⟩

/-- On words the operation writes the sign-extended result: the integer it computes, modulo 2^32. -/
theorem State.wordResult_writes {defined : Bool} {v : Word32} {w : DWord} (hd : defined = true) (h : sext32 v = w) :
    WritesRegister (s.wordResult r defined v) s r w :=
  s.result_writes r (by rw [hd, if_pos rfl, h])

theorem State.dwordResult_writes {v w : DWord} (h64 : s.is64bitOps = true) (h : v = w) :
    WritesRegister (s.dwordResult r v) s r w := by
  rw [State.dwordResult, State.requires64, if_pos h64]
  exact s.result_writes r h

theorem State.wordResultOrOverflow_cases (defined overflows : Bool) (v : Word32) :
    (∃ w, WritesRegister (s.wordResultOrOverflow r defined overflows v) s r w)
      ∨ s.wordResultOrOverflow r defined overflows v = .next (s.takeException .ov) := by
  rw [State.wordResultOrOverflow]
  generalize (if defined then overflows else s.freeBit .overflowTaken) = traps
  cases traps with
  | true => exact .inr rfl
  | false => exact .inl (s.wordResult_writes_some r defined v)

end

/-- The exact result is a `w`-bit two's complement value (41:R271). -/
theorem outsideSigned_eq_false_iff {w : Nat} {x : Int} :
    outsideSigned w x = false ↔ -(2 ^ (w - 1)) ≤ x ∧ x ≤ 2 ^ (w - 1) - 1 := by
  simp [outsideSigned]

section

variable {s : State} {r : Reg} {x : Int} {overflows : Bool} {w : DWord}

/-- An operation that traps on overflow, by its exact result: it completes where that fits, and raises Ov where it does not. -/
theorem State.raiseOv_or_writes {n : Nat} {k : Host.Outcome State Fault Refusal} (ho : overflows = outsideSigned n x)
    (hk : WritesRegister k s r w) :
    (-(2 ^ (n - 1)) ≤ x ∧ x ≤ 2 ^ (n - 1) - 1 → WritesRegister (if overflows then s.raise .ov else k) s r w)
    ∧ (¬(-(2 ^ (n - 1)) ≤ x ∧ x ≤ 2 ^ (n - 1) - 1) →
        (if overflows then s.raise .ov else k) = .next (s.takeException .ov)) := by
  rw [← outsideSigned_eq_false_iff, ← ho]
  cases overflows with
  | true => exact ⟨fun h => (nomatch h), fun _ => rfl⟩
  | false => exact ⟨fun _ => hk, fun h => (h rfl).elim⟩

theorem State.wordResultOrOverflow_spec {defined : Bool} {v : Word32} (hd : defined = true)
    (ho : overflows = outsideSigned 32 x) (h : sext32 v = w) :
    (-(2 ^ 31) ≤ x ∧ x ≤ 2 ^ 31 - 1 → WritesRegister (s.wordResultOrOverflow r defined overflows v) s r w)
    ∧ (¬(-(2 ^ 31) ≤ x ∧ x ≤ 2 ^ 31 - 1) →
        s.wordResultOrOverflow r defined overflows v = .next (s.takeException .ov)) := by
  rw [State.wordResultOrOverflow, if_pos hd]
  exact State.raiseOv_or_writes ho (s.wordResult_writes r hd h)

theorem State.dwordResultOrOverflow_spec {v : DWord} (h64 : s.is64bitOps = true) (ho : overflows = outsideSigned 64 x)
    (h : v = w) :
    (-(2 ^ 63) ≤ x ∧ x ≤ 2 ^ 63 - 1 → WritesRegister (s.dwordResultOrOverflow r overflows v) s r w)
    ∧ (¬(-(2 ^ 63) ≤ x ∧ x ≤ 2 ^ 63 - 1) →
        s.dwordResultOrOverflow r overflows v = .next (s.takeException .ov)) := by
  rw [State.dwordResultOrOverflow, State.requires64, if_pos h64]
  exact State.raiseOv_or_writes ho (s.result_writes r h)

end

/-! The results of the operations, as integers (41:R230 to R269). -/

section

variable {w : Nat}

theorem ofInt_sub_ofInt (x y : Int) : BitVec.ofInt w x - BitVec.ofInt w y = BitVec.ofInt w (x - y) := by
  rw [← BitVec.toInt_inj, BitVec.toInt_sub, BitVec.toInt_ofInt, BitVec.toInt_ofInt, BitVec.toInt_ofInt,
    Int.sub_bmod_bmod, Int.bmod_sub_bmod]

theorem shiftLeft_ofInt (x : Int) (n : Nat) : BitVec.ofInt w x <<< n = BitVec.ofInt w (x * 2 ^ n) := by
  have power : BitVec.twoPow w n = BitVec.ofInt w ((2 ^ n : Nat) : Int) := by
    rw [BitVec.ofInt_natCast, ← BitVec.toNat_inj, BitVec.toNat_twoPow, BitVec.toNat_ofNat]
  rw [BitVec.shiftLeft_eq_mul_twoPow, power, ← BitVec.ofInt_mul, Int.natCast_pow, Int.cast_ofNat_Int]

theorem ushiftRight_eq_ofNat (v : BitVec w) (n : Nat) : v >>> n = BitVec.ofNat w (v.toNat / 2 ^ n) := by
  rw [← Nat.shiftRight_eq_div_pow, ← BitVec.toNat_ushiftRight, BitVec.ofNat_toNat, BitVec.setWidth_eq]

theorem shiftLeft_eq_ofNat (v : BitVec w) (n : Nat) : v <<< n = BitVec.ofNat w (v.toNat * 2 ^ n) := by
  rw [← BitVec.toNat_inj, BitVec.toNat_shiftLeft, BitVec.toNat_ofNat, Nat.shiftLeft_eq]

theorem toInt_sshiftRight_eq (v : BitVec w) (n : Nat) : (v.sshiftRight n).toInt = v.toInt / 2 ^ n := by
  rw [BitVec.toInt_sshiftRight, Int.shiftRight_eq_div_pow, Int.natCast_pow, Int.cast_ofNat_Int]

theorem sshiftRight_eq_ofInt (v : BitVec w) (n : Nat) : v.sshiftRight n = BitVec.ofInt w (v.toInt / 2 ^ n) := by
  rw [← toInt_sshiftRight_eq, BitVec.ofInt_toInt]

end

theorem sext32_ofInt (x : Int) : sext32 (BitVec.ofInt 32 x) = BitVec.ofInt 64 (x.bmod (2 ^ 32)) := by
  rw [sext32, BitVec.signExtend, BitVec.toInt_ofInt]

/-- The low word of any register is its signed value modulo 2^32, whether or not it holds a word. -/
theorem low32_eq_ofInt (v : DWord) : low32 v = BitVec.ofInt 32 v.toInt := by
  rw [low32_eq_setWidth, ← BitVec.signExtend_eq_setWidth_of_le v (by decide), BitVec.signExtend]

theorem toNat_low32 (v : DWord) : (low32 v).toNat = v.toNat % 2 ^ 32 := by
  rw [low32_eq_setWidth, BitVec.toNat_setWidth]

theorem toInt_low32 {v : DWord} (h : isWord v = true) : (low32 v).toInt = v.toInt := by
  have extended : sext32 (low32 v) = v := eq_of_beq h
  conv_rhs => rw [← extended, sext32, BitVec.toInt_signExtend_of_le (by decide)]

theorem sext32_add (a b : DWord) : sext32 (low32 a + low32 b) = BitVec.ofInt 64 ((a.toInt + b.toInt).bmod (2 ^ 32)) := by
  rw [low32_eq_ofInt, low32_eq_ofInt, ← BitVec.ofInt_add, sext32_ofInt]

theorem sext32_sub (a b : DWord) : sext32 (low32 a - low32 b) = BitVec.ofInt 64 ((a.toInt - b.toInt).bmod (2 ^ 32)) := by
  rw [low32_eq_ofInt, low32_eq_ofInt, ofInt_sub_ofInt, sext32_ofInt]

theorem sext32_addImm (a : DWord) (imm : BitVec 16) :
    sext32 (low32 a + imm.signExtend 32) = BitVec.ofInt 64 ((a.toInt + imm.toInt).bmod (2 ^ 32)) := by
  rw [low32_eq_ofInt, BitVec.signExtend, ← BitVec.ofInt_add, sext32_ofInt]

theorem sext32_shiftLeft (v : DWord) (n : Nat) :
    sext32 (low32 v <<< n) = BitVec.ofInt 64 ((v.toInt * 2 ^ n).bmod (2 ^ 32)) := by
  rw [low32_eq_ofInt, shiftLeft_ofInt, sext32_ofInt]

theorem sext32_ushiftRight (v : DWord) (n : Nat) :
    sext32 (low32 v >>> n) = BitVec.ofInt 64 (Int.bmod ((v.toNat % 2 ^ 32 / 2 ^ n : Nat)) (2 ^ 32)) := by
  rw [ushiftRight_eq_ofNat, toNat_low32, ← BitVec.ofInt_natCast, sext32_ofInt]

/-- The arithmetic shift of a word needs no truncation: it is a word again. -/
theorem sext32_sshiftRight {v : DWord} (h : isWord v = true) (n : Nat) :
    sext32 ((low32 v).sshiftRight n) = BitVec.ofInt 64 (v.toInt / 2 ^ n) := by
  rw [sext32, BitVec.signExtend, toInt_sshiftRight_eq, toInt_low32 h]

theorem dword_add (a b : DWord) : a + b = BitVec.ofInt 64 (a.toInt + b.toInt) := by
  rw [BitVec.ofInt_add, BitVec.ofInt_toInt, BitVec.ofInt_toInt]

theorem dword_sub (a b : DWord) : a - b = BitVec.ofInt 64 (a.toInt - b.toInt) := by
  rw [← ofInt_sub_ofInt, BitVec.ofInt_toInt, BitVec.ofInt_toInt]

theorem toInt_sextImm (imm : BitVec 16) : (sextImm imm).toInt = imm.toInt := BitVec.toInt_signExtend_of_le (by decide)

theorem dword_addImm (a : DWord) (imm : BitVec 16) : a + sextImm imm = BitVec.ofInt 64 (a.toInt + imm.toInt) := by
  rw [dword_add, toInt_sextImm]

theorem zextImm_eq (imm : BitVec 16) : zextImm imm = BitVec.ofNat 64 imm.toNat := (BitVec.ofNat_toNat 64 imm).symm

theorem luiImm_eq (imm : BitVec 16) : luiImm imm = BitVec.ofInt 64 (imm.toInt * 65536) := by
  have shifted : (imm ++ (0 : BitVec 16)).toInt = imm.toInt * 65536 := by
    rw [BitVec.toInt_append, if_neg (by decide), mul_comm]
    exact add_zero _
  rw [luiImm, sext32, BitVec.signExtend, shifted]

theorem setOn_decide (p : Prop) [Decidable p] : setOn (decide p) = if p then 1 else 0 := by
  simp only [setOn, decide_eq_true_eq]

theorem shiftAmount5_eq (v : DWord) : shiftAmount5 v = v.toNat % 32 := by
  rw [shiftAmount5, BitVec.extractLsb'_toNat, Nat.shiftRight_zero]

theorem shiftAmount6_eq (v : DWord) : shiftAmount6 v = v.toNat % 64 := by
  rw [shiftAmount6, BitVec.extractLsb'_toNat, Nat.shiftRight_zero]

/-! The exact result decides the overflow (41:R271). -/

theorem addOverflows_low32 {a b : DWord} (ha : isWord a = true) (hb : isWord b = true) :
    addOverflows (low32 a) (low32 b) = outsideSigned 32 (a.toInt + b.toInt) := by
  rw [addOverflows, toInt_low32 ha, toInt_low32 hb]

theorem subOverflows_low32 {a b : DWord} (ha : isWord a = true) (hb : isWord b = true) :
    subOverflows (low32 a) (low32 b) = outsideSigned 32 (a.toInt - b.toInt) := by
  rw [subOverflows, toInt_low32 ha, toInt_low32 hb]

theorem addOverflows_low32_imm {a : DWord} (ha : isWord a = true) (imm : BitVec 16) :
    addOverflows (low32 a) (imm.signExtend 32) = outsideSigned 32 (a.toInt + imm.toInt) := by
  rw [addOverflows, toInt_low32 ha, BitVec.toInt_signExtend_of_le (by decide)]

theorem addOverflows_sextImm (a : DWord) (imm : BitVec 16) :
    addOverflows a (sextImm imm) = outsideSigned 64 (a.toInt + imm.toInt) := by
  rw [addOverflows, toInt_sextImm]

/-! The obligations. -/

/-- Settles O22. -/
theorem logicAndCompare : Obligations.LogicAndCompare := by
  intro rs rt rd imm s a b
  refine ⟨?andi, ?ori, ?xori, ?lui, ?slti, ?sltiu, ?slt, ?sltu, ?and, ?or, ?xor, ?nor⟩
  case andi => exact s.result_writes rt (congrArg (a &&& ·) (zextImm_eq imm))
  case ori => exact s.result_writes rt (congrArg (a ||| ·) (zextImm_eq imm))
  case xori => exact s.result_writes rt (congrArg (a ^^^ ·) (zextImm_eq imm))
  case lui => exact s.result_writes rt (luiImm_eq imm)
  case slti => exact s.result_writes rt ((setOn_decide _).trans (by rw [toInt_sextImm]))
  case sltiu => exact s.result_writes rt (setOn_decide _)
  case slt => exact s.result_writes rd (setOn_decide _)
  case sltu => exact s.result_writes rd (setOn_decide _)
  case and => exact s.result_writes rd rfl
  case or => exact s.result_writes rd rfl
  case xor => exact s.result_writes rd rfl
  case nor => exact s.result_writes rd rfl

/-- Settles O23. -/
theorem wordArithmetic : Obligations.WordArithmetic := by
  intro rs rt rd imm s ha a b word fits
  obtain ⟨addi, addiTraps⟩ :=
    s.wordResultOrOverflow_spec (r := rt) ha (addOverflows_low32_imm ha imm) (sext32_addImm (s.reg rs) imm)
  refine ⟨s.wordResult_writes rt ha (sext32_addImm _ imm), addi, addiTraps, fun hb => ?_⟩
  have both : (isWord (s.reg rs) && isWord (s.reg rt)) = true := by rw [ha, hb]; rfl
  obtain ⟨add, addTraps⟩ :=
    s.wordResultOrOverflow_spec (r := rd) both (addOverflows_low32 ha hb) (sext32_add (s.reg rs) (s.reg rt))
  obtain ⟨sub, subTraps⟩ :=
    s.wordResultOrOverflow_spec (r := rd) both (subOverflows_low32 ha hb) (sext32_sub (s.reg rs) (s.reg rt))
  exact ⟨s.wordResult_writes rd both (sext32_add ..), s.wordResult_writes rd both (sext32_sub ..),
    add, addTraps, sub, subTraps⟩

/-- Settles O24. -/
theorem doublewordArithmetic : Obligations.DoublewordArithmetic := by
  intro rs rt rd imm s h64 a b fits
  obtain ⟨daddi, daddiTraps⟩ :=
    s.dwordResultOrOverflow_spec (r := rt) h64 (addOverflows_sextImm (s.reg rs) imm) (dword_addImm (s.reg rs) imm)
  obtain ⟨dadd, daddTraps⟩ := s.dwordResultOrOverflow_spec (r := rd) (x := a + b) h64 rfl (dword_add (s.reg rs) (s.reg rt))
  obtain ⟨dsub, dsubTraps⟩ := s.dwordResultOrOverflow_spec (r := rd) (x := a - b) h64 rfl (dword_sub (s.reg rs) (s.reg rt))
  exact ⟨s.dwordResult_writes rt h64 (dword_addImm _ imm), s.dwordResult_writes rd h64 (dword_add ..),
    s.dwordResult_writes rd h64 (dword_sub ..), daddi, daddiTraps, dadd, daddTraps, dsub, dsubTraps⟩

/-- Settles O25: the left shifts ask for no word, as their result takes the low bits of the operand only. -/
theorem wordShifts : Obligations.WordShifts := by
  intro rs rt rd sa s v n word
  have amount : shiftAmount5 (s.reg rs) = n := shiftAmount5_eq _
  refine ⟨s.wordResult_writes rd rfl (sext32_shiftLeft v _), s.wordResult_writes rd rfl ?sllv, fun hv =>
    ⟨s.wordResult_writes rd hv (sext32_ushiftRight v _), s.wordResult_writes rd hv (sext32_sshiftRight hv _),
      s.wordResult_writes rd hv ?srlv, s.wordResult_writes rd hv ?srav⟩⟩
  case sllv => rw [amount]; exact sext32_shiftLeft v n
  case srlv => rw [amount]; exact sext32_ushiftRight v n
  case srav => rw [amount]; exact sext32_sshiftRight hv n

/-- Settles O26. -/
theorem doublewordShifts : Obligations.DoublewordShifts := by
  intro rs rt rd sa s h64 v n left right arith
  have amount : shiftAmount6 (s.reg rs) = n := shiftAmount6_eq _
  have writes {x y : DWord} : x = y → WritesRegister (s.dwordResult rd x) s rd y := s.dwordResult_writes rd h64
  refine ⟨writes (shiftLeft_eq_ofNat ..), writes (ushiftRight_eq_ofNat ..), writes (sshiftRight_eq_ofInt ..),
    writes (shiftLeft_eq_ofNat ..), writes (ushiftRight_eq_ofNat ..), writes (sshiftRight_eq_ofInt ..),
    writes ?dsllv, writes ?dsrlv, writes ?dsrav⟩
  case dsllv => rw [amount]; exact shiftLeft_eq_ofNat v n
  case dsrlv => rw [amount]; exact ushiftRight_eq_ofNat v n
  case dsrav => rw [amount]; exact sshiftRight_eq_ofInt v n

/-- Settles O27: every form ends in a word result, and the three that trap may raise Ov instead, by an open choice (log 16). -/
theorem nonWordOperands : Obligations.NonWordOperands := by
  intro rs rt rd imm sa s
  have writes (r : Reg) (defined : Bool) (v : Word32) := s.wordResult_writes_some r defined v
  have writesOrTraps (r : Reg) (defined overflows : Bool) (v : Word32) := s.wordResultOrOverflow_cases r defined overflows v
  exact ⟨writes rt .., writes rd .., writes rd .., writes rd .., writes rd .., writes rd .., writes rd ..,
    writesOrTraps rt .., writesOrTraps rd .., writesOrTraps rd ..⟩

end Sys2Proof.Machine
end

section
/-! PROOFS. Multiply, divide, sum of products and the HI/LO moves (spec 42): O29 to O33. First the frame of a write and of a read
of HI and LO, then the parts of a wide result, then each operation on the operands it is defined for, then the obligations. -/

namespace Sys2Proof.Machine

/-! The shared endings (42:R280, R295; 70:R470). -/

/-- The hazard takes the values of its registers and does nothing else (70:R470). -/
theorem State.hiLoHazard_spec (s : State) :
    s.hiLoHazard = { s with gpr := s.hiLoHazard.gpr } ∧ KeepsRegs s.hazardRegs s s.hiLoHazard :=
  s.forget_spec s.hazardRegs .hazard

theorem State.hiLoHazard_hi (s : State) : s.hiLoHazard.hi = s.hi := by rw [s.hiLoHazard_spec.1]

theorem State.hiLoHazard_lo (s : State) : s.hiLoHazard.lo = s.lo := by rw [s.hiLoHazard_spec.1]

/-- The frame of a write of HI and LO behind the hazard, with both values stated in any equal form. -/
theorem State.writeHiLo_writes (s : State) {hi lo hi' lo' : DWord} (cycles : Nat) (hhi : hi = hi') (hlo : lo = lo') :
    WritesHiLo (.next (s.hiLoHazard.writeHiLo hi lo cycles)) s hi' lo' := by
  subst hhi hlo
  obtain ⟨frame, others⟩ := s.hiLoHazard_spec
  refine ⟨_, rfl, rfl, rfl, others, fun r => rfl, ?advances, ?control, ?memory⟩
  case advances => rw [frame]; constructor <;> rfl
  case control => rw [frame]; constructor <;> rfl
  case memory => rw [frame]; exact ⟨rfl, rfl, rfl, State.byteAt_congr rfl rfl⟩

/-- MFHI and MFLO have the frame of any register write: the window and the unit are no part of it. -/
theorem State.readHiLo_writes (s : State) (r : Reg) (v : DWord) : WritesRegister (.next (s.readHiLo r v)) s r v := by
  obtain ⟨t, ht, value, others, hiLo, advances, control, memory⟩ := s.result_writes r (v := v) rfl
  cases ht
  exact ⟨_, rfl, value, others, hiLo, { advances with }, { control with }, { memory with }⟩

section

variable {s : State}

theorem WritesHiLo.requires64 {k : Host.Outcome State Fault Refusal} {hi lo : DWord} (h64 : s.is64bitOps = true)
    (h : WritesHiLo k s hi lo) : WritesHiLo (s.requires64 k) s hi lo := by
  rwa [State.requires64, if_pos h64]

/-- An operation that is defined on its operands gives HI and LO the values it computes. -/
theorem State.execHiLo_writes {rs rt : Reg} {cycles : Nat} {f : DWord → DWord → Option HiLo} {hi lo : DWord}
    (h : f (s.hiLoHazard.reg rs) (s.hiLoHazard.reg rt) = some { hi := hi, lo := lo }) :
    WritesHiLo (s.execHiLo rs rt cycles f) s hi lo := by
  rw [State.execHiLo, h]
  exact s.writeHiLo_writes cycles rfl rfl

/-- Every operation completes, with open values where it is not defined. -/
theorem State.execHiLo_writes_some (rs rt : Reg) (cycles : Nat) (f : DWord → DWord → Option HiLo) :
    ∃ hi lo, WritesHiLo (s.execHiLo rs rt cycles f) s hi lo :=
  ⟨_, _, s.writeHiLo_writes cycles rfl rfl⟩

theorem State.requires64_execHiLo_writes_some (h64 : s.is64bitOps = true) (rs rt : Reg) (cycles : Nat)
    (f : DWord → DWord → Option HiLo) : ∃ hi lo, WritesHiLo (s.requires64 (s.execHiLo rs rt cycles f)) s hi lo := by
  obtain ⟨hi, lo, h⟩ := s.execHiLo_writes_some rs rt cycles f
  exact ⟨hi, lo, h.requires64 h64⟩

end

/-! The parts of a wide result, as integers. -/

/-- A field of the two's complement form of an integer is its quotient, truncated. -/
theorem extractLsb'_ofInt {n k w : Nat} (h : k + w ≤ n) (x : Int) :
    (BitVec.ofInt n x).extractLsb' k w = BitVec.ofInt w (x / 2 ^ k) := by
  obtain ⟨d, rfl⟩ := Nat.exists_eq_add_of_le h
  have truncated : x % 2 ^ (k + w + d) = x + 2 ^ k * (2 ^ w * -(2 ^ d * (x / 2 ^ (k + w + d)))) := by
    rw [Int.emod_def]; ring
  have field : x % 2 ^ (k + w + d) / 2 ^ k % 2 ^ w = x / 2 ^ k % 2 ^ w := by
    rw [truncated, Int.add_mul_ediv_left _ _ (by positivity), Int.add_mul_emod_self_left]
  have nonneg (y : Int) (m : Nat) : 0 ≤ y % 2 ^ m := Int.emod_nonneg _ (by positivity)
  rw [← BitVec.toNat_inj, BitVec.extractLsb'_toNat, Nat.shiftRight_eq_div_pow, BitVec.toNat_ofInt, BitVec.toNat_ofInt,
    ← Int.natCast_inj]
  push_cast
  rw [Int.toNat_of_nonneg (nonneg ..), Int.toNat_of_nonneg (nonneg ..), field]

theorem extractLsb'_zero_ofInt {n w : Nat} (h : w ≤ n) (x : Int) : (BitVec.ofInt n x).extractLsb' 0 w = BitVec.ofInt w x := by
  rw [extractLsb'_ofInt (by omega), pow_zero, Int.ediv_one]

/-- Both words of a 64-bit result, each sign-extended (42:R281, R282). -/
theorem HiLo.ofWords_ofInt (x : Int) :
    HiLo.ofWords (high32 (BitVec.ofInt 64 x)) (low32 (BitVec.ofInt 64 x)) =
      { hi := BitVec.ofInt 64 ((x / 2 ^ 32).bmod (2 ^ 32)), lo := BitVec.ofInt 64 (x.bmod (2 ^ 32)) } := by
  rw [HiLo.ofWords, high32, low32, extractLsb'_ofInt (by decide), extractLsb'_zero_ofInt (by decide), sext32_ofInt,
    sext32_ofInt]

/-- The upper word of a result that 64 bits hold needs no truncation. -/
theorem HiLo.ofWords_ofInt_of_fits {x : Int} (hl : -2 ^ 63 ≤ x) (hu : x < 2 ^ 63) :
    HiLo.ofWords (high32 (BitVec.ofInt 64 x)) (low32 (BitVec.ofInt 64 x)) =
      { hi := BitVec.ofInt 64 (x / 2 ^ 32), lo := BitVec.ofInt 64 (x.bmod (2 ^ 32)) } := by
  rw [HiLo.ofWords_ofInt, Int.bmod_eq_of_le (by norm_num; omega) (by norm_num; omega)]

theorem sext32_ofInt_toInt (v : Word32) : sext32 (BitVec.ofInt 32 v.toInt) = BitVec.ofInt 64 v.toInt := by
  rw [BitVec.ofInt_toInt, sext32, BitVec.signExtend]

theorem sext32_ofNat (n : Nat) : sext32 (BitVec.ofNat 32 n) = BitVec.ofInt 64 (Int.bmod n (2 ^ 32)) := by
  rw [← BitVec.ofInt_natCast, sext32_ofInt]

/-! The products (42:R281, R282, R285, R286). -/

theorem wordOperation_of_isWord {a b : DWord} (f : Word32 → Word32 → Option HiLo) (ha : isWord a = true)
    (hb : isWord b = true) : wordOperation f a b = f (low32 a) (low32 b) := by
  rw [wordOperation, ha, hb]; rfl

theorem multWord_low32 {a b : DWord} (ha : isWord a = true) (hb : isWord b = true) :
    multWord (low32 a) (low32 b) = some
      { hi := BitVec.ofInt 64 (a.toInt * b.toInt / 2 ^ 32), lo := BitVec.ofInt 64 ((a.toInt * b.toInt).bmod (2 ^ 32)) } := by
  have least : -2 ^ 62 ≤ (low32 a).toInt * (low32 b).toInt := BitVec.le_toInt_mul_toInt
  have greatest : (low32 a).toInt * (low32 b).toInt ≤ 2 ^ 62 := BitVec.toInt_mul_toInt_le
  rw [multWord, HiLo.ofWords_ofInt_of_fits (by omega) (by omega), toInt_low32 ha, toInt_low32 hb]

theorem multuWord_low32 (a b : DWord) :
    let p : Nat := a.toNat % 2 ^ 32 * (b.toNat % 2 ^ 32)
    multuWord (low32 a) (low32 b) = some
      { hi := BitVec.ofInt 64 (Int.bmod (p / 2 ^ 32 : Nat) (2 ^ 32)), lo := BitVec.ofInt 64 (Int.bmod p (2 ^ 32)) } := by
  intro p
  rw [multuWord, toNat_low32, toNat_low32, ← BitVec.ofInt_natCast, HiLo.ofWords_ofInt, Int.natCast_ediv, Int.natCast_pow,
    Int.cast_ofNat_Int]

theorem multDword_eq (a b : DWord) :
    multDword a b = some { hi := BitVec.ofInt 64 (a.toInt * b.toInt / 2 ^ 64), lo := BitVec.ofInt 64 (a.toInt * b.toInt) } := by
  rw [multDword, extractLsb'_ofInt (by decide), extractLsb'_zero_ofInt (by decide)]

theorem multuDword_eq (a b : DWord) :
    multuDword a b =
      some { hi := BitVec.ofNat 64 (a.toNat * b.toNat / 2 ^ 64), lo := BitVec.ofNat 64 (a.toNat * b.toNat) } := by
  rw [multuDword, ← BitVec.ofInt_natCast, extractLsb'_ofInt (by decide), extractLsb'_zero_ofInt (by decide),
    ← BitVec.ofInt_natCast, ← BitVec.ofInt_natCast, Int.natCast_ediv, Int.natCast_pow, Int.cast_ofNat_Int]

/-! The quotients and remainders (42:R283, R284, R287, R288), apart from the corners of 42:R297. -/

theorem signedDivide_of_defined {w : Nat} {x y : Int} (hy : y ≠ 0) (fits : ¬(x = -2 ^ (w - 1) ∧ y = -1)) :
    signedDivide w x y = some (BitVec.ofInt w (x.tdiv y), BitVec.ofInt w (x.tmod y)) :=
  if_neg (not_or.2 ⟨hy, fits⟩)

theorem unsignedDivide_of_ne_zero (w : Nat) {x y : Nat} (hy : y ≠ 0) :
    unsignedDivide w x y = some (BitVec.ofNat w (x / y), BitVec.ofNat w (x % y)) :=
  if_neg hy

/-- The quotient of two words is a word, but for the least one divided by -1. -/
theorem sext32_tdiv {x y : Word32} (fits : ¬(x.toInt = -2 ^ 31 ∧ y.toInt = -1)) :
    sext32 (BitVec.ofInt 32 (x.toInt.tdiv y.toInt)) = BitVec.ofInt 64 (x.toInt.tdiv y.toInt) := by
  have corner : ¬(x = BitVec.intMin 32 ∧ y = -1#32) := fun ⟨hx, hy⟩ => fits ⟨by rw [hx]; rfl, by rw [hy]; rfl⟩
  rw [← BitVec.toInt_sdiv_of_ne_or_ne x y (not_and_or.1 corner), sext32_ofInt_toInt]

theorem sext32_tmod (x y : Word32) :
    sext32 (BitVec.ofInt 32 (x.toInt.tmod y.toInt)) = BitVec.ofInt 64 (x.toInt.tmod y.toInt) := by
  rw [← BitVec.toInt_srem, sext32_ofInt_toInt]

theorem signedDivide_low32 {a b : DWord} (ha : isWord a = true) (hb : isWord b = true) (h0 : b ≠ 0)
    (fits : ¬(a.toInt = -2 ^ 31 ∧ b.toInt = -1)) :
    (signedDivide 32 (low32 a).toInt (low32 b).toInt).map HiLo.ofWordQuotient = some
      { hi := BitVec.ofInt 64 (a.toInt.tmod b.toInt), lo := BitVec.ofInt 64 (a.toInt.tdiv b.toInt) } := by
  have nonzero : b.toInt ≠ 0 := BitVec.toInt_ne.2 h0
  rw [← toInt_low32 ha, ← toInt_low32 hb] at fits
  rw [← toInt_low32 hb] at nonzero
  rw [signedDivide_of_defined nonzero fits, Option.map_some, HiLo.ofWordQuotient, HiLo.ofWords, sext32_tdiv fits, sext32_tmod,
    toInt_low32 ha, toInt_low32 hb]

/-- A word that is not 0 is not 0 in its low word either. -/
theorem toNat_mod_ne_zero {b : DWord} (hb : isWord b = true) (h0 : b ≠ 0) : b.toNat % 2 ^ 32 ≠ 0 := fun zero => by
  have extended : sext32 (low32 b) = b := eq_of_beq hb
  have low : low32 b = 0 := BitVec.eq_of_toNat_eq ((toNat_low32 b).trans zero)
  exact h0 (by rw [← extended, low]; rfl)

theorem unsignedDivide_low32 (a : DWord) {b : DWord} (hb : isWord b = true) (h0 : b ≠ 0) :
    let x : Nat := a.toNat % 2 ^ 32
    let y : Nat := b.toNat % 2 ^ 32
    (unsignedDivide 32 (low32 a).toNat (low32 b).toNat).map HiLo.ofWordQuotient = some
      { hi := BitVec.ofInt 64 (Int.bmod (x % y : Nat) (2 ^ 32)), lo := BitVec.ofInt 64 (Int.bmod (x / y : Nat) (2 ^ 32)) } := by
  intro x y
  rw [toNat_low32, toNat_low32, unsignedDivide_of_ne_zero 32 (toNat_mod_ne_zero hb h0), Option.map_some, HiLo.ofWordQuotient,
    HiLo.ofWords, sext32_ofNat, sext32_ofNat]

/-! The sums of products (42:R293, R294). -/

/-- The accumulator of MADD16 as a number. -/
theorem low32_append_low32 (hi lo : DWord) :
    low32 hi ++ low32 lo = BitVec.ofInt 64 (hi.toNat % 2 ^ 32 * 2 ^ 32 + lo.toNat % 2 ^ 32 : Nat) := by
  have number : (low32 hi ++ low32 lo).toNat = hi.toNat % 2 ^ 32 * 2 ^ 32 + lo.toNat % 2 ^ 32 := by
    rw [BitVec.toNat_append, ← Nat.shiftLeft_add_eq_or_of_lt (low32 lo).isLt, Nat.shiftLeft_eq, toNat_low32, toNat_low32]
  rw [← number, BitVec.ofInt_natCast, BitVec.ofNat_toNat, BitVec.setWidth_eq]

theorem madd16_of_is16 {a b : DWord} (hi lo : DWord) (ha : is16 a = true) (hb : is16 b = true) :
    let acc : Nat := hi.toNat % 2 ^ 32 * 2 ^ 32 + lo.toNat % 2 ^ 32
    let sum : DWord := BitVec.ofInt 64 (a.toInt * b.toInt + acc)
    madd16 hi lo a b = some
      { hi := BitVec.ofInt 64 (sum.toInt / 2 ^ 32), lo := BitVec.ofInt 64 (sum.toInt.bmod (2 ^ 32)) } := by
  intro acc sum
  have summed : BitVec.ofInt 64 (a.toInt * b.toInt + (low32 hi ++ low32 lo : DWord).toInt) = BitVec.ofInt 64 sum.toInt := by
    rw [BitVec.ofInt_add, BitVec.ofInt_toInt, low32_append_low32, ← BitVec.ofInt_add, BitVec.ofInt_toInt]
  rw [madd16, ha, hb, summed]
  exact congrArg some (HiLo.ofWords_ofInt_of_fits (BitVec.le_toInt sum) BitVec.toInt_lt)

theorem dmadd16_of_is16 {a b : DWord} (hi lo : DWord) (ha : is16 a = true) (hb : is16 b = true) :
    dmadd16 hi lo a b = some { hi := hi, lo := BitVec.ofInt 64 (a.toInt * b.toInt + lo.toInt) } := by
  rw [dmadd16, ha, hb]; rfl

/-! The obligations. -/

/-- Settles O29. -/
theorem multiply : Obligations.Multiply := by
  intro rs rt s a b word ua ub
  refine ⟨fun ha hb => ⟨?mult, ?multu⟩, fun h64 => ⟨?dmult, ?dmultu⟩⟩
  case mult => exact State.execHiLo_writes ((wordOperation_of_isWord _ ha hb).trans (multWord_low32 ha hb))
  case multu => exact State.execHiLo_writes ((wordOperation_of_isWord _ ha hb).trans (multuWord_low32 a b))
  case dmult => exact .requires64 h64 (State.execHiLo_writes (multDword_eq a b))
  case dmultu => exact .requires64 h64 (State.execHiLo_writes (multuDword_eq a b))

/-- Settles O30. -/
theorem divide : Obligations.Divide := by
  intro rs rt s a b word ua ub
  refine ⟨fun ha hb h0 => ⟨fun fits => ?div, ?divu⟩, fun h64 h0 => ⟨fun fits => ?ddiv, ?ddivu⟩⟩
  case div => exact State.execHiLo_writes ((wordOperation_of_isWord _ ha hb).trans (signedDivide_low32 ha hb h0 fits))
  case divu => exact State.execHiLo_writes ((wordOperation_of_isWord _ ha hb).trans (unsignedDivide_low32 a hb h0))
  case ddiv =>
    have quotient := signedDivide_of_defined (w := 64) (BitVec.toInt_ne.2 h0) fits
    exact .requires64 h64 (State.execHiLo_writes (congrArg (Option.map HiLo.ofQuotient) quotient))
  case ddivu =>
    have quotient := unsignedDivide_of_ne_zero 64 (x := a.toNat) (BitVec.toNat_ne.1 h0)
    exact .requires64 h64 (State.execHiLo_writes (congrArg (Option.map HiLo.ofQuotient) quotient))

/-- Settles O31: all ten are operations on HI and LO, and those complete on any operands. -/
theorem mulDivAlwaysCompletes : Obligations.MulDivAlwaysCompletes := by
  intro rs rt s
  simp only [List.forall_mem_cons, List.not_mem_nil, false_imp_iff, implies_true, and_true]
  have word := s.execHiLo_writes_some rs rt
  refine ⟨⟨word .., word .., word .., word .., word ..⟩, fun h64 => ?_⟩
  have dword := s.requires64_execHiLo_writes_some h64 rs rt
  exact ⟨dword .., dword .., dword .., dword .., dword ..⟩

/-- Settles O32. -/
theorem sumOfProducts : Obligations.SumOfProducts := by
  intro rs rt s ha hb p acc sum
  exact ⟨State.execHiLo_writes (madd16_of_is16 s.hi s.lo ha hb), fun h64 =>
    ⟨_, .requires64 h64 (State.execHiLo_writes (dmadd16_of_is16 _ s.lo ha hb))⟩⟩

/-- Settles O33: each completes in a read or a write of HI and LO that leaves no cycles behind. -/
theorem hiLoMoves : Obligations.HiLoMoves := by
  intro r s
  refine ⟨s.readHiLo_writes r s.hi, s.readHiLo_writes r s.lo, s.writeHiLo_writes 0 rfl s.hiLoHazard_lo,
    s.writeHiLo_writes 0 s.hiLoHazard_hi rfl, fun i t hi ht => ?_⟩
  simp only [List.mem_cons, List.not_mem_nil, or_false] at hi
  rcases hi with rfl | rfl | rfl | rfl <;> exact Host.Outcome.next.inj ht ▸ rfl

end Sys2Proof.Machine
end

section
/-! PROOFS. Jumps, branches and the refused forms (spec 43): O35 to O38. First the frame of a transfer with or without a link, then
the targets and the conditions as the integers the spec gives, then what the refusing guards answer, then the obligations. -/

namespace Sys2Proof.Machine

/-! The shared endings (43:R300, R321, R323). -/

/-- What a jump or branch does with its link register: nothing, as in `State.jump`, `State.branch` and `State.branchLikely`, or the
write of `State.jumpAndLink`, `State.branchAndLink` and `State.branchLikelyAndLink`, which all unfold to it. -/
def State.linkInto (link : Option Reg) (s t : State) : State := link.elim t fun r => t.setReg r (linkAddress s.pc)

/-- What `Transfers` and `SkipsSlot` share: besides the pc, only the link register may change. -/
structure OnlyLinks (link : Option Reg) (s t : State) : Prop where
  linked : ∀ r, link = some r → t.reg r = if r = 0 then 0 else s.pc + 8
  others : KeepsRegs link.toList s t
  hiLo : KeepsHiLo s t
  control : KeepsControl s t
  memory : KeepsMemory s t

theorem Completed.keepsControl {s t : State} (h : Completed s t) : KeepsControl s t := { h with }

section

variable (s : State)

theorem OnlyLinks.branchTo (target : DWord) : OnlyLinks none s (s.branchTo target) where
  linked := nofun
  others := fun _ _ => rfl
  hiLo := ⟨rfl, rfl⟩
  control := (Completed.retire s s.npc target true nofun).keepsControl
  memory := ⟨rfl, rfl, rfl, State.byteAt_congr rfl rfl⟩

theorem OnlyLinks.nullifySlot : OnlyLinks none s s.nullifySlot where
  linked := nofun
  others := fun _ _ => rfl
  hiLo := ⟨rfl, rfl⟩
  control := (Completed.nullifySlot s).keepsControl
  memory := ⟨rfl, rfl, rfl, State.byteAt_congr rfl rfl⟩

end

section

variable {s t : State}

theorem KeepsControl.setReg (h : KeepsControl s t) (r : Reg) (v : DWord) : KeepsControl s (t.setReg r v) := by
  rw [State.setReg_eq]
  exact { h with }

theorem KeepsMemory.setReg (h : KeepsMemory s t) (r : Reg) (v : DWord) : KeepsMemory s (t.setReg r v) := by
  rw [State.setReg_eq]
  exact { h with }

theorem KeepsHiLo.setReg (h : KeepsHiLo s t) (r : Reg) (v : DWord) : KeepsHiLo s (t.setReg r v) := by
  rw [State.setReg_eq]
  exact h

theorem OnlyLinks.setReg (h : OnlyLinks none s t) (r : Reg) : OnlyLinks (some r) s (t.setReg r (linkAddress s.pc)) where
  linked := fun _ hr => Option.some.inj hr ▸ State.reg_setReg_same ..
  others := fun r' hr' => (State.reg_setReg_other t _ (List.ne_of_not_mem_cons hr')).trans (h.others r' List.not_mem_nil)
  hiLo := h.hiLo.setReg ..
  control := h.control.setReg ..
  memory := h.memory.setReg ..

theorem OnlyLinks.linkInto (h : OnlyLinks none s t) (link : Option Reg) : OnlyLinks link s (s.linkInto link t) := by
  cases link with
  | none => exact h
  | some r => exact h.setReg r

/-- The link leaves the pc and the delay slot alone. -/
theorem State.linkInto_control (link : Option Reg) :
    (s.linkInto link t).pc = t.pc ∧ (s.linkInto link t).npc = t.npc ∧ (s.linkInto link t).ds = t.ds := by
  cases link with
  | none => exact ⟨rfl, rfl, rfl⟩
  | some r => exact ⟨State.setReg_pc .., State.setReg_npc .., State.setReg_ds ..⟩

theorem State.outsideSlot_eq (hds : s.ds = false) (k : Host.Outcome State Fault Refusal) : s.outsideSlot k = k :=
  if_neg (by simp [hds])

/-- A jump, with its target stated in any equal form. -/
theorem State.branchTo_transfers (hds : s.ds = false) (link : Option Reg) {target target' : DWord} (h : target = target') :
    Transfers (s.outsideSlot (.next (s.linkInto link (s.branchTo target)))) s target' link := by
  subst h
  rw [State.outsideSlot_eq hds]
  obtain ⟨hpc, hnpc, hslot⟩ := State.linkInto_control (s := s) (t := s.branchTo target) link
  obtain ⟨linked, others, hiLo, control, memory⟩ := (OnlyLinks.branchTo s target).linkInto link
  exact ⟨_, rfl, hpc, hnpc, hslot, linked, others, hiLo, control, memory⟩

theorem State.nullifySlot_skipsSlot (hds : s.ds = false) (link : Option Reg) :
    SkipsSlot (s.outsideSlot (.next (s.linkInto link s.nullifySlot))) s link := by
  rw [State.outsideSlot_eq hds]
  obtain ⟨hpc, hnpc, hslot⟩ := State.linkInto_control (s := s) (t := s.nullifySlot) link
  obtain ⟨linked, others, hiLo, control, memory⟩ := (OnlyLinks.nullifySlot s).linkInto link
  exact ⟨_, rfl, hpc, hnpc, hslot, linked, others, hiLo, control, memory⟩

end

/-! The targets (43:R323). -/

/-- The region of the delay slot, and in it the word the field names. -/
theorem jumpTarget_eq (pc : DWord) (target : BitVec 26) :
    jumpTarget pc target = BitVec.ofNat 64 ((pc + 4).toNat / 2 ^ 28 * 2 ^ 28 + target.toNat * 4) := by
  have slot : (pc + 4).toNat < 2 ^ 64 := (pc + 4).isLt
  have field : target.toNat < 2 ^ 26 := target.isLt
  have aligned : (0 : BitVec 2).toNat = 0 := rfl
  rw [jumpTarget, ← BitVec.toNat_inj, BitVec.toNat_append, ← Nat.shiftLeft_add_eq_or_of_lt (0 : BitVec 2).isLt,
    BitVec.toNat_append, ← Nat.shiftLeft_add_eq_or_of_lt field, BitVec.extractLsb'_toNat, BitVec.toNat_ofNat,
    Nat.shiftLeft_eq, Nat.shiftLeft_eq, Nat.shiftRight_eq_div_pow, aligned]
  omega

theorem branchTarget_eq (pc : DWord) (offset : BitVec 16) :
    branchTarget pc offset = BitVec.ofInt 64 (pc.toInt + 4 + offset.toInt * 4) := by
  have shifted : ((offset ++ (0 : BitVec 2)) : BitVec 18).toInt = offset.toInt * 4 := by
    rw [BitVec.toInt_append, if_neg (by decide), mul_comm]
    exact add_zero _
  rw [branchTarget, BitVec.signExtend, shifted, BitVec.ofInt_add, BitVec.ofInt_add, BitVec.ofInt_toInt]
  rfl

/-! The conditions (43:R305 to R320). -/

theorem signBit_eq_decide (v : DWord) : v.getLsbD 63 = decide (v.toInt < 0) :=
  v.msb_eq_getLsbD_last.symm.trans BitVec.msb_eq_toInt

theorem not_signBit_eq_decide (v : DWord) : (!v.getLsbD 63) = decide (0 ≤ v.toInt) := by
  rw [signBit_eq_decide, ← decide_not, decide_eq_decide, Int.not_lt]

theorem bne_eq_decide_ne (a b : DWord) : (a != b) = decide (a ≠ b) := by
  rw [bne, beq_eq_decide, ← decide_not]

/-! The branches, by their condition. -/

section

variable {s : State} {taken : Bool} {p : Prop} [Decidable p]

theorem State.branchState_eq (s : State) (taken : Bool) (offset : BitVec 16) :
    s.branchState taken offset = s.branchTo (if taken then branchTarget s.pc offset else s.npc + 4) := by
  cases taken <;> rfl

theorem State.branchState_transfers (hds : s.ds = false) (link : Option Reg) (offset : BitVec 16) (h : taken = decide p) :
    Transfers (s.outsideSlot (.next (s.linkInto link (s.branchState taken offset)))) s
      (if decide p then BitVec.ofInt 64 (s.pc.toInt + 4 + offset.toInt * 4) else s.npc + 4) link := by
  rw [State.branchState_eq, h, ← branchTarget_eq]
  exact State.branchTo_transfers hds link rfl

/-- A branch-likely transfers as the branch does when taken, and skips its slot otherwise; it links in both cases. -/
theorem State.branchLikelyState_ends (hds : s.ds = false) (link : Option Reg) (offset : BitVec 16) (h : taken = decide p) :
    (p → Transfers (s.outsideSlot (.next (s.linkInto link (s.branchLikelyState taken offset)))) s
      (BitVec.ofInt 64 (s.pc.toInt + 4 + offset.toInt * 4)) link)
    ∧ (¬p → SkipsSlot (s.outsideSlot (.next (s.linkInto link (s.branchLikelyState taken offset)))) s link) := by
  subst h
  refine ⟨fun hp => ?taken, fun hp => ?untaken⟩
  case taken =>
    rw [decide_eq_true hp]
    exact State.branchTo_transfers hds link (branchTarget_eq ..)
  case untaken =>
    rw [decide_eq_false hp]
    exact State.nullifySlot_skipsSlot hds link

end

/-! The refusing guards (43:R322, 10:R31, R36, 45:R363, R364). -/

section

variable {s : State} {rd : Reg} (k : Host.Outcome State Fault Refusal)

theorem State.outsideSlot_refused (hds : s.ds = true) : s.outsideSlot k = .refused .branchInDelaySlot := if_pos hds

theorem State.requiresCp0_eq (hcp0 : s.cp0Usable = true) : s.requiresCp0 k = k := if_pos hcp0

theorem State.requiresCp0_requires64_eq (hcp0 : s.cp0Usable = true) (h64 : s.is64bitOps = true) :
    s.requiresCp0 (s.requires64 k) = k :=
  (State.requiresCp0_eq _ hcp0).trans (if_pos h64)

theorem namesCp0Register_refused (hrd : cp0Unused rd = true) : namesCp0Register rd k = .refused .reservedCp0Register :=
  if_pos hrd

theorem namesWideCp0Register_refused (hrd : cp0Unused rd = false) (hwide : cp0Wide rd = false) :
    namesWideCp0Register rd k = .refused .cp0RegisterWidth := by
  rw [namesWideCp0Register, namesCp0Register, hrd, hwide]; rfl

theorem State.tlbWrite_refused (hmask : legalMask s.cp0.pageMask = false) (i : BitVec 5) :
    s.tlbWrite i = .refused .illegalPageMask :=
  if_neg (by simp [hmask])

end

/-! The obligations. -/

/-- Settles O35. The target of JALR is read from the state before its link (43:R304). -/
theorem jumpsTransfer : Obligations.Jumps := by
  intro target rs rd s hds region
  have transfers (link : Option Reg) {x y : DWord} (h : x = y) := State.branchTo_transfers hds link h
  exact ⟨transfers none (jumpTarget_eq ..), transfers (some 31) (jumpTarget_eq ..), transfers none rfl, transfers (some rd) rfl⟩

/-- Settles O36. -/
theorem branches : Obligations.Branches := by
  intro rs rt offset s hds a target
  have transfers (link : Option Reg) {taken : Bool} {p : Prop} [Decidable p] (h : taken = decide p) :=
    State.branchState_transfers hds link offset h
  refine ⟨?beq, ?bne, ?blez, ?bgtz, ?bltz, ?bgez, ?bltzal, ?bgezal⟩
  case beq => exact transfers none (beq_eq_decide ..)
  case bne => exact transfers none (bne_eq_decide_ne ..)
  case blez => exact transfers none BitVec.sle_eq_decide
  case bgtz => exact transfers none BitVec.slt_eq_decide
  case bltz => exact transfers none (signBit_eq_decide a)
  case bgez => exact transfers none (not_signBit_eq_decide a)
  case bltzal => exact transfers (some 31) (signBit_eq_decide a)
  case bgezal => exact transfers (some 31) (not_signBit_eq_decide a)

/-- Settles O37. -/
theorem branchLikely : Obligations.BranchLikely := by
  intro rs rt offset s hds a target ends
  have likely (link : Option Reg) {taken : Bool} {p : Prop} [Decidable p] (h : taken = decide p) :=
    State.branchLikelyState_ends hds link offset h
  refine ⟨?beql, ?bnel, ?blezl, ?bgtzl, ?bltzl, ?bgezl, ?bltzall, ?bgezall⟩
  case beql => exact likely none (beq_eq_decide ..)
  case bnel => exact likely none (bne_eq_decide_ne ..)
  case blezl => exact likely none BitVec.sle_eq_decide
  case bgtzl => exact likely none BitVec.slt_eq_decide
  case bltzl => exact likely none (signBit_eq_decide a)
  case bgezl => exact likely none (not_signBit_eq_decide a)
  case bltzall => exact likely (some 31) (signBit_eq_decide a)
  case bgezall => exact likely (some 31) (not_signBit_eq_decide a)

/-- Settles O38: each form meets its refusing guard before it has any effect. -/
theorem refusedForms : Obligations.RefusedForms := by
  intro rs rt rd offset target s
  refine ⟨fun hds => ⟨?transfers, fun hcp0 => ?eret⟩, fun hcp0 =>
    ⟨fun hrd => ⟨?mfc0, ?mtc0, fun h64 => ⟨?dmfc0, ?dmtc0⟩⟩, fun hrd hwide h64 => ⟨?narrowFrom, ?narrowTo⟩,
      fun hmask => ⟨?tlbwi, ?tlbwr⟩⟩⟩
  case transfers =>
    simp only [List.forall_mem_cons, List.not_mem_nil, false_imp_iff, implies_true, and_true]
    and_intros <;> exact State.outsideSlot_refused _ hds
  case eret => exact (State.requiresCp0_eq _ hcp0).trans (State.outsideSlot_refused _ hds)
  case mfc0 => exact (State.requiresCp0_eq _ hcp0).trans (namesCp0Register_refused _ hrd)
  case mtc0 => exact (State.requiresCp0_eq _ hcp0).trans (namesCp0Register_refused _ hrd)
  case tlbwi => exact (State.requiresCp0_eq _ hcp0).trans (State.tlbWrite_refused hmask _)
  case tlbwr => exact (State.requiresCp0_eq _ hcp0).trans (State.tlbWrite_refused hmask _)
  case dmfc0 => exact (State.requiresCp0_requires64_eq _ hcp0 h64).trans (namesCp0Register_refused _ hrd)
  case dmtc0 => exact (State.requiresCp0_requires64_eq _ hcp0 h64).trans (namesCp0Register_refused _ hrd)
  case narrowFrom => exact (State.requiresCp0_requires64_eq _ hcp0 h64).trans (namesWideCp0Register_refused _ hrd hwide)
  case narrowTo => exact (State.requiresCp0_requires64_eq _ hcp0 h64).trans (namesWideCp0Register_refused _ hrd hwide)

end Sys2Proof.Machine
end

section
/-! PROOFS. SYSCALL, BREAK and SYNC, the traps and the instructions the VR4100 does not provide (spec 44): O39 to O41. First the
word of SYSCALL and BREAK, then what taking an exception records and leaves alone, then the conditions of the traps, then the
obligations. -/

namespace Sys2Proof

/-- The fields between the opcode and the function of an R-format word, taken as one. -/
theorem rType_eq_append (rs rt rd : Reg) (sa : BitVec 5) (funct : BitVec 6) :
    rType rs rt rd sa funct = (0 : BitVec 6) ++ (rs ++ rt ++ rd ++ sa) ++ funct := by
  rw [rType, iType, ← BitVec.toNat_inj]
  simp only [BitVec.toNat_append, Nat.shiftLeft_or_distrib, ← Nat.shiftLeft_add, Nat.or_assoc]

theorem codeType_eq_append (code : BitVec 20) (funct : BitVec 6) :
    codeType code funct = (0 : BitVec 6) ++ code ++ funct := by
  rw [codeType, rType_eq_append, code_fields]

end Sys2Proof

namespace Sys2Proof.Machine

/-! What taking an exception does (60:R404, R405, R414). -/

section

variable (e : Exc) (s : State)

theorem State.takeException_keepsRegs : KeepsRegs [] s (s.takeException e) := by cases e <;> exact fun _ _ => rfl

theorem State.takeException_keepsHiLo : KeepsHiLo s (s.takeException e) := by cases e <;> exact ⟨rfl, rfl⟩

theorem State.takeException_icache : (s.takeException e).icache = s.icache := by cases e <;> rfl

theorem State.takeException_dcache : (s.takeException e).dcache = s.dcache := by cases e <;> rfl

theorem State.takeException_keepsMemory : KeepsMemory s (s.takeException e) :=
  ⟨s.takeException_mem e, s.takeException_icache e, s.takeException_dcache e,
    State.byteAt_congr (s.takeException_dcache e) (s.takeException_mem e)⟩

end

section

variable {e : Exc} (s : State)

/-- Every exception but cache error takes the common entry (60:R405, R414). -/
theorem State.takeException_eq_enterCommon (common : e ≠ .cacheError) : s.takeException e = s.enterCommon e := by
  cases e with
  | cacheError => exact (common rfl).elim
  | _ => rfl

theorem State.takeException_excCode (common : e ≠ .cacheError) : (s.takeException e).cp0.cause.excCode = e.code := by
  rw [s.takeException_eq_enterCommon common]; rfl

/-- Only a TLB refill outside the exception level has a vector of its own (60:R404, R406). -/
theorem State.vectorOffset_general (noRefill : ∀ va k, e ≠ .tlbRefill va k) : s.vectorOffset e = 0x180 := by
  cases e with
  | tlbRefill va k => exact (noRefill va k rfl).elim
  | _ => exact ite_self _

theorem State.takeException_pc (noRefill : ∀ va k, e ≠ .tlbRefill va k) (common : e ≠ .cacheError) :
    (s.takeException e).pc = s.vectorBase + 0x180 := by
  rw [s.takeException_eq_enterCommon common, ← s.vectorOffset_general noRefill]; rfl

/-- Outside the exception level the entry records where to restart (60:R405, R408). -/
theorem State.takeException_epc (common : e ≠ .cacheError) (hexl : s.cp0.status.exl = false) :
    (s.takeException e).cp0.epc = s.restartAddress ∧ (s.takeException e).cp0.cause.bd = s.ds := by
  have notExl : ¬s.cp0.status.exl = true := by simp [hexl]
  rw [s.takeException_eq_enterCommon common]
  exact ⟨if_neg notExl, if_neg notExl⟩

/-- An exception at the general vector: what it records and where it goes. -/
theorem State.raise_general (noRefill : ∀ va k, e ≠ .tlbRefill va k) (common : e ≠ .cacheError) :
    ∃ t, s.raise e = .next t ∧ t = s.takeException e ∧ t.cp0.cause.excCode = e.code ∧ t.pc = s.vectorBase + 0x180
      ∧ (s.cp0.status.exl = false → t.cp0.epc = s.restartAddress ∧ t.cp0.cause.bd = s.ds) :=
  ⟨_, rfl, rfl, s.takeException_excCode common, s.takeException_pc noRefill common, s.takeException_epc common⟩

end

/-! The endings of the instructions: the advance, and the trap on a condition (44:R332, R355). -/

section

variable (s : State)

theorem State.advance_onlyAdvances : OnlyAdvances (.next s.advance) s :=
  ⟨s.advance, rfl, fun _ _ => rfl, ⟨rfl, rfl⟩, ⟨rfl, rfl, rfl, rfl⟩, (Completed.advance s).keepsControl,
    rfl, rfl, rfl, State.byteAt_congr rfl rfl⟩

theorem State.trapIf_ends_of_decide {c : Bool} {p : Prop} [Decidable p] (h : c = decide p) :
    (p → s.trapIf c = .next (s.takeException .tr)) ∧ (¬p → OnlyAdvances (s.trapIf c) s) := by
  subst h
  refine ⟨fun hp => ?traps, fun hp => ?advances⟩
  case traps => rw [decide_eq_true hp]; rfl
  case advances => rw [decide_eq_false hp]; exact s.advance_onlyAdvances

end

/-! The conditions of the traps (44:R333 to R344). -/

section

variable (a b : DWord)

theorem not_slt_eq_decide : (!a.slt b) = decide (b.toInt ≤ a.toInt) := by
  rw [BitVec.slt_eq_decide, ← decide_not, decide_eq_decide, Int.not_lt]

theorem not_ult_eq_decide : (!a.ult b) = decide (b.toNat ≤ a.toNat) := by
  rw [BitVec.ult_eq_decide, ← decide_not, decide_eq_decide, Nat.not_lt]

end

/-- The condition of a signed immediate form reads the field's own signed value (30:R162). -/
theorem slt_sextImm_eq_decide (a : DWord) (imm : BitVec 16) : a.slt (sextImm imm) = decide (a.toInt < imm.toInt) := by
  rw [BitVec.slt_eq_decide, toInt_sextImm]

theorem not_slt_sextImm_eq_decide (a : DWord) (imm : BitVec 16) :
    (!a.slt (sextImm imm)) = decide (imm.toInt ≤ a.toInt) := by
  rw [not_slt_eq_decide, toInt_sextImm]

/-! The obligations. -/

/-- Settles O40. The code field occurs in none of the conditions, and no mode is consulted. -/
theorem trapsOnCondition : Obligations.Traps := by
  intro rs rt code imm s a b c ends
  have trap {taken : Bool} {p : Prop} [Decidable p] (h : taken = decide p) := s.trapIf_ends_of_decide h
  refine ⟨?tge, ?tgeu, ?tlt, ?tltu, ?teq, ?tne, ?tgei, ?tgeiu, ?tlti, ?tltiu, ?teqi, ?tnei, ?code, ?vector⟩
  case tge => exact trap (not_slt_eq_decide a b)
  case tgeu => exact trap (not_ult_eq_decide a b)
  case tlt => exact trap BitVec.slt_eq_decide
  case tltu => exact trap BitVec.ult_eq_decide
  case teq => exact trap (beq_eq_decide a b)
  case tne => exact trap (bne_eq_decide_ne a b)
  case tgei => exact trap (not_slt_sextImm_eq_decide a imm)
  case tgeiu => exact trap (not_ult_eq_decide a c)
  case tlti => exact trap (slt_sextImm_eq_decide a imm)
  case tltiu => exact trap BitVec.ult_eq_decide
  case teqi => exact trap (beq_eq_decide a c)
  case tnei => exact trap (bne_eq_decide_ne a c)
  case code => exact s.takeException_excCode nofun
  case vector => exact s.takeException_pc nofun nofun

/-- Settles O39. -/
theorem syscallBreakSync : Obligations.SyscallBreakSync := by
  intro code s enters
  refine ⟨?syscall, ?brk, s.advance_onlyAdvances, codeType_eq_append code _, codeType_eq_append code _, by decide⟩
  case syscall => exact s.raise_general nofun nofun
  case brk => exact s.raise_general nofun nofun

/-- Settles O41: each form raises RI before it reads any operand. -/
theorem deletedInstructions : Obligations.DeletedInstructions := by
  intro base rt offset cofun s i hi
  have raises : exec i s = .next (s.takeException .ri) := by
    revert i
    simp only [List.forall_mem_cons, List.not_mem_nil, false_imp_iff, implies_true, and_true]
    and_intros <;> rfl
  exact ⟨raises, s.takeException_excCode nofun, s.takeException_keepsRegs .ri, s.takeException_keepsHiLo .ri,
    s.takeException_keepsMemory .ri⟩

end Sys2Proof.Machine
end

section
/-! PROOFS. Where CP0 is not usable, the words that need it (45:R360): O54. -/

namespace Sys2Proof.Machine

theorem State.cp0Usable_iff {s : State} : s.cp0Usable = true ↔ s.mode = .kernel ∨ s.cp0.status.cu0 = true := by
  rw [State.cp0Usable, Bool.or_eq_true, beq_iff_eq]

theorem State.requiresCp0_unusable {s : State} (k : Host.Outcome State Fault Refusal) (unusable : s.cp0Usable = false) :
    s.requiresCp0 k = .next (s.takeException (.cpU 0)) :=
  if_neg (by simp [unusable])

/-- The instructions of COP0 and CACHE check CP0 before anything else; no other instruction has their major opcodes. -/
theorem exec_of_needsCp0 {i : Instr} {s : State} (needs : needsCp0 (encode i) = true) (unusable : s.cp0Usable = false) :
    exec i s = .next (s.takeException (.cpU 0)) := by
  cases i with
  | mfc0 | mtc0 | dmfc0 | dmtc0 | tlbr | tlbwi | tlbwr | tlbp | eret | standby | suspend | hibernate
  | cacheIndexInvalidateI | cacheIndexWriteBackInvalidateD | cacheIndexLoadTagI | cacheIndexLoadTagD
  | cacheIndexStoreTagI | cacheIndexStoreTagD | cacheCreateDirtyD | cacheHitInvalidateI | cacheHitInvalidateD
  | cacheFillI | cacheHitWriteBackInvalidateD | cacheHitWriteBackI | cacheHitWriteBackD =>
    exact State.requiresCp0_unusable _ unusable
  | _ => exact absurd ((needsCp0_iType ..).symm.trans needs) (by decide)

theorem State.execWord_cp0_unusable {w : Word32} {s : State} (needs : needsCp0 w = true) (unusable : s.cp0Usable = false) :
    s.execWord w = .next (s.takeException (.cpU 0)) := by
  unfold State.execWord
  cases decoded : decode w with
  | ok i => exact exec_of_needsCp0 (encode_of_decode decoded ▸ needs) unusable
  | error e => exact if_pos (by simp [needs, unusable])

/-- Settles O54. -/
theorem coprocessorUnusable : Obligations.CoprocessorUnusable := by
  intro w s
  refine ⟨State.cp0Usable_iff, fun unusable opcode => ⟨State.execWord_cp0_unusable ?_ unusable,
    s.takeException_excCode nofun, rfl⟩⟩
  simpa [needsCp0] using opcode

end Sys2Proof.Machine
end

section
/-! PROOFS. The TLB instructions and ERET (45:R365 to R369): O53 and O20. -/

namespace Sys2Proof.Machine

section

variable {s : State}

/-- An instruction that changes CP0 registers and nothing else. -/
theorem State.advance_changesCp0 (s : State) (f : Cp0 → Cp0) :
    ChangesCp0 (.next (s.advance.mapCp0 f)) s (f { s.cp0 with random := nextRandom s.cp0.random s.cp0.wired }) :=
  ⟨_, rfl, rfl, fun _ _ => rfl, ⟨rfl, rfl⟩, rfl, rfl, rfl, rfl, ⟨rfl, rfl, rfl, State.byteAt_congr rfl rfl⟩⟩

/-- A TLB entry written by an instruction (45:R366). -/
theorem State.tlbWrite_eq (legal : legalMask s.cp0.pageMask = true) (i : BitVec 5) :
    s.tlbWrite i = .next (s.advance.setTlbEntry i s.cp0.storedEntry) := if_pos legal

theorem State.tlbWrite_writes (legal : legalMask s.cp0.pageMask = true) (i : BitVec 5) :
    WritesTlbEntry (s.tlbWrite i) s i s.cp0.storedEntry :=
  ⟨_, State.tlbWrite_eq legal i, State.tlbEntry_setTlbEntry_same .., fun _ hj => State.tlbEntry_setTlbEntry_other _ _ hj,
    rfl, rfl, rfl, rfl, fun _ _ => rfl, ⟨rfl, rfl⟩, rfl, ⟨rfl, rfl, rfl, State.byteAt_congr rfl rfl⟩⟩

/-- What TLBR loads of an entry that a TLB instruction stored: the registers it came from, with the G bits made one. -/
theorem Cp0.loadEntry_storedEntry (c d : Cp0) :
    (Cp0.loadEntry c.storedEntry d).pageMask = c.pageMask ∧ (Cp0.loadEntry c.storedEntry d).entryHi = c.entryHi
      ∧ (Cp0.loadEntry c.storedEntry d).entryLo0 = { c.entryLo0 with g := c.entryLo0.g && c.entryLo1.g }
      ∧ (Cp0.loadEntry c.storedEntry d).entryLo1 = { c.entryLo1 with g := c.entryLo0.g && c.entryLo1.g } :=
  ⟨rfl, rfl, rfl, rfl⟩

theorem exec_tlbr (usable : s.cp0Usable = true) :
    exec .tlbr s = .next (s.advance.mapCp0 (Cp0.loadEntry (s.tlbEntry s.cp0.index.index))) :=
  State.requiresCp0_eq _ usable

theorem exec_tlbwi (usable : s.cp0Usable = true) : exec .tlbwi s = s.tlbWrite s.cp0.index.index :=
  State.requiresCp0_eq _ usable

theorem exec_tlbwr (usable : s.cp0Usable = true) : exec .tlbwr s = s.tlbWrite s.cp0.random :=
  State.requiresCp0_eq _ usable

/-- TLBR of the entry that Index names, just after a TLB instruction stored it: CP0 is still usable, and Index unchanged. -/
theorem exec_tlbr_setTlbEntry (usable : s.cp0Usable = true) (e : TlbEntry) :
    let t := s.advance.setTlbEntry s.cp0.index.index e
    exec .tlbr t = .next (t.advance.mapCp0 (Cp0.loadEntry e)) := by
  intro t
  have entry : t.tlbEntry t.cp0.index.index = e := State.tlbEntry_setTlbEntry_same ..
  rw [exec_tlbr (s := t) usable, entry]

/-! TLBP by the entries that match (45:R368). -/

theorem exec_tlbp_miss (usable : s.cp0Usable = true) (none : s.tlbMatches s.cp0.entryHi.r s.cp0.entryHi.vpn2 = []) :
    exec .tlbp s
      = .next (s.advance.mapCp0 fun c => { c with index := { p := true, index := s.freeBits .tlbpIndex 5 } }) :=
  (State.requiresCp0_eq _ usable).trans (by rw [none])

theorem exec_tlbp_hit (usable : s.cp0Usable = true) {i : Fin 32}
    (one : s.tlbMatches s.cp0.entryHi.r s.cp0.entryHi.vpn2 = [i]) :
    exec .tlbp s = .next (s.advance.mapCp0 fun c => { c with index := { p := false, index := BitVec.ofFin i } }) :=
  (State.requiresCp0_eq _ usable).trans (by rw [one])

theorem exec_tlbp_several (usable : s.cp0Usable = true) {i j : Fin 32} {ms : List (Fin 32)}
    (several : s.tlbMatches s.cp0.entryHi.r s.cp0.entryHi.vpn2 = i :: j :: ms) : exec .tlbp s = .next s.tlbShutdown :=
  (State.requiresCp0_eq _ usable).trans (by rw [several])

end

/-- Settles O53. -/
theorem tlbInstructions : Obligations.TlbInstructions := by
  intro s usable c e f random
  refine ⟨fun legal => ⟨?tlbwi, ?tlbwr, fun t ht => ?readBack⟩, ?tlbr, fun none => ?miss, fun i one => ?hit,
    fun i j ms several => exec_tlbp_several usable several⟩
  case tlbwi => rw [exec_tlbwi usable]; exact State.tlbWrite_writes legal _
  case tlbwr => rw [exec_tlbwr usable]; exact State.tlbWrite_writes legal _
  case readBack =>
    rw [exec_tlbwi usable, State.tlbWrite_eq legal] at ht
    cases ht
    exact ⟨_, exec_tlbr_setTlbEntry usable _, Cp0.loadEntry_storedEntry ..⟩
  case tlbr => rw [exec_tlbr usable]; exact s.advance_changesCp0 _
  case miss => rw [exec_tlbp_miss usable none]; exact ⟨_, s.advance_changesCp0 _⟩
  case hit => rw [exec_tlbp_hit usable one]; exact s.advance_changesCp0 _

/-! The return from an exception (45:R369). -/

/-- Where ERET goes. -/
def State.returnTarget (s : State) : DWord := if s.cp0.status.erl then s.cp0.errorEpc else s.cp0.epc

/-- What ERET makes of Status. -/
def State.returnStatus (s : State) : Status :=
  if s.cp0.status.erl then { s.cp0.status with erl := false } else { s.cp0.status with exl := false }

theorem State.returnFromException_eq (s : State) :
    s.returnFromException = (s.returnTo s.returnTarget).mapStatus fun _ => s.returnStatus := by
  unfold State.returnFromException State.returnTarget State.returnStatus
  split <;> rfl

/-- Where no program was interrupted, a return leaves no register open (log 19). -/
theorem State.returnWindow_of_nil {s : State} (h : s.hiLoSaved = []) (skipped : Bool) (a : DWord) :
    s.returnWindow skipped a = HiLoWindow.empty := by
  have none : s.returnProgram a = none := by simp [State.returnProgram, State.waiting, h]
  have candidates : s.returnCandidates a = [] := by simp [State.returnCandidates, h]
  rw [State.returnWindow_open none, candidates]
  rfl

/-- Settles O20. -/
theorem exceptionReturn : Obligations.ExceptionReturn := by
  intro s usable hds normal fromError st target
  have answer : exec .eret s = ((s.returnTo target).mapStatus fun _ => st).inDefinedMode :=
    (State.requiresCp0_eq _ usable).trans <| (State.outsideSlot_eq hds _).trans <|
      congrArg State.inDefinedMode s.returnFromException_eq
  rw [answer]
  have regs : KeepsRegs (s.returnWindow true target).spoiled s (s.returnTo target) := fun _ hr => s.reg_returnTo target hr
  refine ⟨fun defined => ⟨_, if_neg defined, rfl, rfl, rfl, rfl, regs, fun none => ?_, ⟨rfl, rfl⟩, rfl, rfl,
    ⟨rfl, rfl, rfl, State.byteAt_congr rfl rfl⟩⟩, fun undefined => if_pos undefined⟩
  rw [State.returnWindow_of_nil none] at regs
  exact regs

end Sys2Proof.Machine
end

section
/-! PROOFS. The CACHE operations (45:R370 to R381): O55 to O57. First what every operation does, then what becomes of a line and
of the memory behind it, then the obligations. -/

namespace Sys2Proof.Machine

/-! What every operation does: the translation, the advance, the check of the line's tag parity (45:R370, 20:R156). -/

section

variable {base : Reg} {offset : BitVec 16} {s u : State} {tr : Translation} {op : DWord → PAddr → State → Access Unit}

/-- The state of an operation that completes. -/
theorem State.cacheOperation_eq (usable : s.cp0Usable = true)
    (translated : s.translate (s.effectiveAddress base offset) .load = .ok tr s)
    (completed : op (s.effectiveAddress base offset) tr.pa s = .ok () u) :
    s.cacheOperation base offset op = .next u.advance := by
  unfold State.cacheOperation
  rw [State.requiresCp0_eq _ usable, translated]
  exact congrArg (fun m : Access Unit => (m.andThen fun _ v => .ok () v.advance).finish) completed

/-- An operation on memory and the caches completes with its effect on them and the advance. -/
theorem State.cacheOperation_operates (usable : s.cp0Usable = true)
    (translated : s.translate (s.effectiveAddress base offset) .load = .ok tr s)
    (tame : ∀ va pa t, (op va pa t).Tame t) (completed : op (s.effectiveAddress base offset) tr.pa s = .ok () u)
    {p : State → Prop} (effect : p u.advance) : OperatesCaches (s.cacheOperation base offset op) s p := by
  have same : SameCore s u := by
    have := tame (s.effectiveAddress base offset) tr.pa s
    rwa [completed] at this
  refine ⟨_, State.cacheOperation_eq usable translated completed, effect, fun r _ => same.reg r, ?_, ?_,
    same.advance_keepsControl⟩
  · rw [same.same]; exact ⟨rfl, rfl⟩
  · rw [same.same]; exact ⟨rfl, rfl, rfl, rfl⟩

/-- An operation that changes CP0 registers only. -/
theorem State.cacheOperation_changesCp0 {f : Cp0 → Cp0} (usable : s.cp0Usable = true)
    (translated : s.translate (s.effectiveAddress base offset) .load = .ok tr s)
    (completed : op (s.effectiveAddress base offset) tr.pa s = .ok () (s.mapCp0 f)) :
    ChangesCp0 (s.cacheOperation base offset op) s
      { f s.cp0 with random := nextRandom (f s.cp0).random (f s.cp0).wired } :=
  ⟨_, State.cacheOperation_eq usable translated completed, rfl, fun _ _ => rfl, ⟨rfl, rfl⟩, rfl, rfl, rfl, rfl,
    ⟨rfl, rfl, rfl, State.byteAt_congr rfl rfl⟩⟩

end

section

variable {s : State}

theorem State.onILine_eq {i : BitVec 7} (right : s.cp0.status.de = true ∨ (s.iLine i).tagError = false)
    (k : ICacheLine → State → Access Unit) : s.onILine i k = k (s.iLine i) s :=
  if_neg (by rcases right with h | h <;> simp [State.parityOn, h])

theorem State.onDLine_eq {i : BitVec 6} (right : s.cp0.status.de = true ∨ (s.dLine i).tagError = false)
    (k : DCacheLine → State → Access Unit) : s.onDLine i k = k (s.dLine i) s :=
  if_neg (by rcases right with h | h <;> simp [State.parityOn, h])

theorem ICacheLine.hit_iff {l : ICacheLine} {pa : PAddr} : l.hit pa = true ↔ l.v = true ∧ l.ptag = pa.extractLsb' 10 22 := by
  rw [ICacheLine.hit, Bool.and_eq_true, beq_iff_eq]; rfl

theorem DCacheLine.hit_iff {l : DCacheLine} {pa : PAddr} : l.hit pa = true ↔ l.v = true ∧ l.ptag = pa.extractLsb' 10 22 := by
  rw [DCacheLine.hit, Bool.and_eq_true, beq_iff_eq]; rfl

theorem DCacheLine.dirty_iff {l : DCacheLine} : l.dirty = true ↔ l.v = true ∧ l.w = true := by
  rw [DCacheLine.dirty, Bool.and_eq_true]

end

theorem State.advance_icache (s : State) : s.advance.icache = s.icache := rfl

theorem State.advance_dcache (s : State) : s.advance.dcache = s.dcache := rfl

/-! Lines replaced and written (20:R144). -/

section

variable (s : State)

theorem ReplacesILine.setILine (i : BitVec 7) (l : ICacheLine) : ReplacesILine i l s (s.setILine i l) :=
  ⟨State.iLine_setILine_same .., fun _ hj => State.iLine_setILine_other _ _ hj, rfl⟩

theorem ReplacesILine.advance {i : BitVec 7} {l : ICacheLine} {s t : State} (h : ReplacesILine i l s t) :
    ReplacesILine i l s t.advance := h

theorem ReplacesDLine.setDLine (i : BitVec 6) (l : DCacheLine) : ReplacesDLine i l s (s.setDLine i l) :=
  ⟨State.dLine_setDLine_same .., fun _ hj => State.dLine_setDLine_other _ _ hj, rfl⟩

/-- A line replaced again. -/
theorem ReplacesDLine.trans {i : BitVec 6} {l m : DCacheLine} {s t u : State} (h : ReplacesDLine i l s t)
    (g : ReplacesDLine i m t u) : ReplacesDLine i m s u := by
  obtain ⟨-, others, icache⟩ := h
  obtain ⟨line, others', icache'⟩ := g
  exact ⟨line, fun j hj => (others' j hj).trans (others j hj), icache'.trans icache⟩

/-- A write-back leaves the line clean. -/
theorem State.writeBack_replaces (i : BitVec 6) :
    ReplacesDLine i { s.dLine i with w := false, wPrime := false } s (s.writeBack i) :=
  ⟨State.dLine_setDLine_same .., fun _ hj => State.writeBack_dLine_other hj, State.writeBack_icache i s⟩

/-- Memory that received a line. -/
theorem LineWritten.of_mem {s t : State} {line : BitVec 28} {data : Vector Byte 16} (wf : s.mem.wf = true)
    (h : t.mem = s.mem.writeLine line data) : LineWritten line data s t := by
  unfold LineWritten
  rw [h]
  exact ⟨Memory.read_writeLine_same line data wf, fun _ ha => Memory.read_writeLine_other data wf ha⟩

theorem LineWritten.advance {s t : State} {line : BitVec 28} {data : Vector Byte 16} (h : LineWritten line data s t) :
    LineWritten line data s t.advance := h

/-- A write-back puts the line into memory at its own address. -/
theorem LineWritten.of_writeBack {s t : State} {i : BitVec 6} (wf : s.mem.wf = true) (h : t.mem = (s.writeBack i).mem) :
    LineWritten ((s.dLine i).ptag ++ i) (s.dLine i).data s t :=
  .of_mem wf (h.trans (State.writeBack_mem i s))

end

section

variable {s t : State} {i : BitVec 6}

/-- A line of which nothing is replaced yet. -/
theorem ReplacesDLine.refl (i : BitVec 6) (s : State) : ReplacesDLine i (s.dLine i) s s := ⟨rfl, fun _ _ => rfl, rfl⟩

/-- A line changed in the place where it stands. -/
theorem ReplacesDLine.update {l : DCacheLine} (h : ReplacesDLine i l s t) (f : DCacheLine → DCacheLine) :
    ReplacesDLine i (f l) s (t.setDLine i (f (t.dLine i))) :=
  h.1.symm ▸ h.trans (.setDLine ..)

theorem ReplacesDLine.invalidateD {l : DCacheLine} (h : ReplacesDLine i l s t) :
    ReplacesDLine i { l with v := false } s (t.invalidateD i) :=
  h.update fun l => { l with v := false }

theorem ReplacesDLine.advance {l : DCacheLine} (h : ReplacesDLine i l s t) : ReplacesDLine i l s t.advance := h

/-- What Create_Dirty makes of a line (45:R375). -/
def DCacheLine.madeDirty (tag : BitVec 22) (l : DCacheLine) : DCacheLine :=
  { l with ptag := tag, v := true, p := evenParity tag, w := true, wPrime := true }

/-- The state in which Create_Dirty takes the line: another dirty one is written back first (45:R375). -/
def State.makeRoom (i : BitVec 6) (pa : PAddr) (s : State) : State :=
  if (s.dLine i).hit pa then s else s.writeBackIfDirty i

theorem State.writeBackIfDirty_of_dirty (dirty : (s.dLine i).v = true ∧ (s.dLine i).w = true) :
    s.writeBackIfDirty i = s.writeBack i := if_pos (DCacheLine.dirty_iff.2 dirty)

theorem State.writeBackIfDirty_of_not_dirty (clean : ¬((s.dLine i).v = true ∧ (s.dLine i).w = true)) :
    s.writeBackIfDirty i = s := if_neg (mt DCacheLine.dirty_iff.1 clean)

theorem State.makeRoom_of_victim {pa : PAddr} (dirty : (s.dLine i).v = true ∧ (s.dLine i).w = true)
    (other : (s.dLine i).ptag ≠ pa.extractLsb' 10 22) : s.makeRoom i pa = s.writeBack i :=
  (if_neg fun hit => other (DCacheLine.hit_iff.1 hit).2).trans (State.writeBackIfDirty_of_dirty dirty)

theorem State.makeRoom_of_no_victim {pa : PAddr}
    (h : ¬((s.dLine i).v = true ∧ (s.dLine i).w = true) ∨ (s.dLine i).ptag = pa.extractLsb' 10 22) :
    s.makeRoom i pa = s := by
  by_cases dirty : (s.dLine i).v = true ∧ (s.dLine i).w = true
  · exact if_pos (DCacheLine.hit_iff.2 ⟨dirty.1, h.resolve_left (not_not.2 dirty)⟩)
  · rw [State.makeRoom, State.writeBackIfDirty_of_not_dirty dirty, ite_self]

end

/-! The fill of an instruction cache line that the external agent answers (45:R378). -/

section

variable {s : State}

/-- The line that Fill leaves (45:R378, log 36). -/
def State.filledILine (pa : PAddr) (s : State) : ICacheLine :=
  { ICacheLine.filled pa (s.mem.readLine (lineOf pa)) (s.wrongParity (lineOf pa)) with
    dataP := Config.fillParity s.cp0.parityErr }

theorem State.setILine_setILine (i : BitVec 7) (l m : ICacheLine) : (s.setILine i l).setILine i m = s.setILine i m := by
  simp [State.setILine]

theorem fillI_eq {va : DWord} {pa : PAddr} (right : s.cp0.status.de = true ∨ (s.iLine (iIndex va)).tagError = false)
    (noBusError : s.busErrors = []) (noBadParity : s.badParity = []) (answered : s.noResponse = []) :
    fillI va pa s = .ok () (s.setILine (iIndex va) (s.filledILine pa)) := by
  unfold fillI State.fillInstruction
  have readable : (s.setILine (iIndex va) { s.iLine (iIndex va) with v := false }).Readable false :=
    ⟨noBusError, noBadParity, answered, nofun⟩
  rw [State.onILine_eq right, State.busRead_readable readable]
  simp only [Access.andThen, State.setILine_setILine, State.iLine_setILine_same]
  rfl

theorem State.filledILine_tagError (pa : PAddr) : (s.filledILine pa).tagError = false :=
  ICacheLine.filled_tagError pa (s.mem.readLine (lineOf pa)) (s.wrongParity (lineOf pa))

theorem State.filledILine_data (pa : PAddr) (k : Fin 16) :
    (s.filledILine pa).data[k] = s.mem.read (lineByte (lineOf pa) k.val) :=
  Vector.getElem_ofFn ..

end

/-! What each operation leaves, where the tag parity of its line is right. -/

section

variable {s : State} {va : DWord} {pa : PAddr} (right : s.cp0.status.de = true ∨ (s.dLine (dIndexOf va)).tagError = false)

include right

theorem indexWriteBackInvalidateD_eq :
    indexWriteBackInvalidateD va pa s = .ok () ((s.writeBackIfDirty (dIndexOf va)).invalidateD (dIndexOf va)) :=
  State.onDLine_eq right _

theorem hitWriteBackInvalidateD_eq :
    hitWriteBackInvalidateD va pa s = .ok () (if (s.dLine (dIndexOf va)).hit pa then
      (s.writeBackIfDirty (dIndexOf va)).invalidateD (dIndexOf va) else s) := by
  unfold hitWriteBackInvalidateD
  exact State.onDLine_eq right _

theorem hitWriteBackD_eq :
    hitWriteBackD va pa s
      = .ok () (if (s.dLine (dIndexOf va)).hit pa then s.writeBackIfDirty (dIndexOf va) else s) :=
  State.onDLine_eq right _

theorem hitInvalidateD_eq :
    hitInvalidateD va pa s = .ok () (if (s.dLine (dIndexOf va)).hit pa then s.invalidateD (dIndexOf va) else s) :=
  State.onDLine_eq right _

theorem createDirtyD_eq :
    createDirtyD va pa s = .ok () ((s.makeRoom (dIndexOf va) pa).setDLine (dIndexOf va)
      (((s.makeRoom (dIndexOf va) pa).dLine (dIndexOf va)).madeDirty (tagOf pa))) := by
  unfold createDirtyD
  exact State.onDLine_eq right _

end

/-! The obligations. -/

/-- Settles O55. -/
theorem cacheTags : Obligations.CacheTags := by
  intro base offset s tr va il dl tag p usable translated
  refine ⟨?loadI, ?loadD, fun right => ?storeI, fun right => ?storeD⟩
  case loadI =>
    let x : TagLo :=
      { ptag := il.ptag, v := il.v, p := il.p
        d := s.freeBit .tagLoD, w := s.freeBit .tagLoW, wPrime := s.freeBit .tagLoWPrime }
    exact ⟨x, s.freeBits .parityErr 8, rfl, rfl, rfl,
      State.cacheOperation_changesCp0 (op := indexLoadTagI) usable translated rfl⟩
  case loadD =>
    let x : TagLo := { ptag := dl.ptag, v := dl.v, p := dl.p, d := s.freeBit .tagLoD, w := dl.w, wPrime := dl.wPrime }
    exact ⟨x, s.freeBits .parityErr 8, rfl, rfl, rfl, rfl, rfl,
      State.cacheOperation_changesCp0 (op := indexLoadTagD) usable translated rfl⟩
  case storeI =>
    exact State.cacheOperation_operates usable translated indexStoreTagI_tame (State.onILine_eq right _)
      ⟨ReplacesILine.setILine s _ _, rfl⟩
  case storeD =>
    exact State.cacheOperation_operates usable translated indexStoreTagD_tame (State.onDLine_eq right _)
      ⟨ReplacesDLine.setDLine s _ _, rfl⟩

/-- Settles O57. -/
theorem cacheDataOps : Obligations.CacheDataOps := by
  intro base offset s tr va i l tag hit dirty wroteBack kept usable translated right wf
  have operates {op : DWord → PAddr → State → Access Unit} (u : State) (tame : ∀ va pa t, (op va pa t).Tame t)
      (completed : op va tr.pa s = .ok () u) {q : State → Prop} (effect : q u.advance) :
      OperatesCaches (s.cacheOperation base offset op) s q :=
    State.cacheOperation_operates usable translated tame completed effect
  have untouched : kept s.advance := ⟨rfl, rfl, rfl⟩
  have clean := ReplacesDLine.refl i s
  have cleaned : ReplacesDLine i { l with w := false, wPrime := false } s (s.writeBack i) := s.writeBack_replaces i
  have written {t : State} (ht : t.mem = (s.writeBack i).mem) : wroteBack t := .of_writeBack wf ht
  refine ⟨?indexWriteBackInvalidate, ?hitWriteBackInvalidate, ?hitWriteBack, ?hitInvalidate, ?createDirty⟩
  case indexWriteBackInvalidate =>
    refine operates ((s.writeBackIfDirty i).invalidateD i) indexWriteBackInvalidateD_tame (indexWriteBackInvalidateD_eq right)
      ⟨fun hd => ?_, fun hd => ?_⟩
    · rw [State.writeBackIfDirty_of_dirty hd]
      exact ⟨written rfl, cleaned.invalidateD.advance⟩
    · rw [State.writeBackIfDirty_of_not_dirty hd]
      exact ⟨rfl, clean.invalidateD.advance⟩
  case hitWriteBackInvalidate =>
    refine operates (if l.hit tr.pa then (s.writeBackIfDirty i).invalidateD i else s) hitWriteBackInvalidateD_tame
      (hitWriteBackInvalidateD_eq right) ⟨fun hh hw => ?_, fun hh hw => ?_, fun miss => ?_⟩
    · rw [if_pos (DCacheLine.hit_iff.2 hh), State.writeBackIfDirty_of_dirty ⟨hh.1, hw⟩]
      exact ⟨written rfl, cleaned.invalidateD.advance⟩
    · have notDirty : ¬dirty := fun hd => Bool.false_ne_true (hw.symm.trans hd.2)
      rw [if_pos (DCacheLine.hit_iff.2 hh), State.writeBackIfDirty_of_not_dirty notDirty]
      exact ⟨rfl, clean.invalidateD.advance⟩
    · rw [if_neg (mt DCacheLine.hit_iff.1 miss)]
      exact untouched
  case hitWriteBack =>
    refine operates (if l.hit tr.pa then s.writeBackIfDirty i else s) hitWriteBackD_tame (hitWriteBackD_eq right)
      ⟨fun hh hw => ?_, fun miss => ?_⟩
    · rw [if_pos (DCacheLine.hit_iff.2 hh), State.writeBackIfDirty_of_dirty ⟨hh.1, hw⟩]
      exact ⟨written rfl, cleaned.advance⟩
    · by_cases hh : hit
      · rw [State.writeBackIfDirty_of_not_dirty fun hd => miss ⟨hh, hd.2⟩, ite_self]
        exact untouched
      · rw [if_neg (mt DCacheLine.hit_iff.1 hh)]
        exact untouched
  case hitInvalidate =>
    refine operates (if l.hit tr.pa then s.invalidateD i else s) hitInvalidateD_tame (hitInvalidateD_eq right)
      ⟨fun hh => ?_, fun miss => ?_⟩
    · rw [if_pos (DCacheLine.hit_iff.2 hh)]
      exact ⟨rfl, clean.invalidateD.advance⟩
    · rw [if_neg (mt DCacheLine.hit_iff.1 miss)]
      exact untouched
  case createDirty =>
    refine operates ((s.makeRoom i tr.pa).setDLine i (((s.makeRoom i tr.pa).dLine i).madeDirty tag)) createDirtyD_tame
      (createDirtyD_eq right) ?_
    by_cases victim : dirty ∧ l.ptag ≠ tag
    · rw [State.makeRoom_of_victim victim.1 victim.2]
      exact ⟨(cleaned.update (·.madeDirty tag)).advance, fun _ _ => written rfl,
        fun none => absurd victim (not_and_or.2 (none.imp id not_not.2))⟩
    · have none : ¬dirty ∨ l.ptag = tag := (not_and_or.1 victim).imp id not_not.1
      rw [State.makeRoom_of_no_victim none]
      exact ⟨(clean.update (·.madeDirty tag)).advance, fun hd other => absurd ⟨hd, other⟩ victim, fun _ => rfl⟩

/-- Settles O56. -/
theorem cacheInstructionOps : Obligations.CacheInstructionOps := by
  intro base offset s tr va l hit usable translated right
  have operates {op : DWord → PAddr → State → Access Unit} (u : State) (tame : ∀ va pa t, (op va pa t).Tame t)
      (completed : op va tr.pa s = .ok () u) {q : State → Prop} (effect : q u.advance) :
      OperatesCaches (s.cacheOperation base offset op) s q :=
    State.cacheOperation_operates usable translated tame completed effect
  have invalidated : ReplacesILine (iIndex va) { l with v := false } s (s.invalidateI (iIndex va)) := .setILine ..
  refine ⟨?indexInvalidate, ?hitInvalidate, fun noBusError noBadParity answered => ?fill, fun wf => ?hitWriteBack⟩
  case indexInvalidate =>
    exact operates (s.invalidateI (iIndex va)) indexInvalidateI_tame (State.onILine_eq right _) ⟨invalidated.advance, rfl⟩
  case hitInvalidate =>
    refine operates (if l.hit tr.pa then s.invalidateI (iIndex va) else s) hitInvalidateI_tame (State.onILine_eq right _) ?_
    by_cases hh : hit
    · rw [if_pos (ICacheLine.hit_iff.2 hh)]
      exact ⟨fun _ => invalidated.advance, fun miss => absurd hh miss, rfl⟩
    · rw [if_neg (mt ICacheLine.hit_iff.1 hh)]
      exact ⟨fun hh' => absurd hh' hh, fun _ => ⟨rfl, rfl⟩, rfl⟩
  case fill =>
    exact operates (s.setILine (iIndex va) (s.filledILine tr.pa)) fillI_tame
      (fillI_eq right noBusError noBadParity answered)
      ⟨s.filledILine tr.pa, (ReplacesILine.setILine s _ _).advance, rfl, rfl, rfl, State.filledILine_tagError _,
        State.filledILine_data _⟩
  case hitWriteBack =>
    have written : LineWritten (lineOf tr.pa) l.data s (s.mapMem fun m => m.writeLine (lineOf tr.pa) l.data) :=
      .of_mem wf (State.mapMem_mem_eq ..)
    refine operates (if l.hit tr.pa then s.mapMem fun m => m.writeLine (lineOf tr.pa) l.data else s) hitWriteBackI_tame
      (State.onILine_eq right _) ?_
    by_cases hh : hit
    · rw [if_pos (ICacheLine.hit_iff.2 hh)]
      exact ⟨fun _ => written.advance, fun miss => absurd hh miss, (State.advance_icache _).trans (State.mapMem_icache ..),
        (State.advance_dcache _).trans (State.mapMem_dcache ..)⟩
    · rw [if_neg (mt ICacheLine.hit_iff.1 hh)]
      exact ⟨fun hh' => absurd hh' hh, fun _ => rfl, rfl, rfl⟩

end Sys2Proof.Machine
end

section
/-! PROOFS. The CP0 registers and the moves to and from them (45:R361 to R364, R383): O51 and O52. First what a write under a
mask makes of a register put together from fields, then each register, then the obligations. -/

namespace Sys2Proof.Machine

/-! Fields of a register under a mask (45:R383). -/

section

variable {n v : Nat} (mask w : DWord) (k : Nat)

/-- What a write of `w` under a mask leaves of a field that stands at bit `k` of the register: where the mask has a one the bit
of `w`, elsewhere the old one. -/
def writeField (mask w : DWord) (k : Nat) (x : BitVec n) : BitVec n :=
  (x &&& ~~~(mask.extractLsb' k n)) ||| (w.extractLsb' k n &&& mask.extractLsb' k n)

/-- The whole register is a field at bit 0. -/
theorem writeField_zero (x : DWord) : writeField mask w 0 x = (x &&& ~~~mask) ||| (w &&& mask) := by
  rw [writeField, extract_whole, extract_whole]

/-- Two neighbouring fields are written each by itself. -/
theorem writeField_append (x : BitVec n) (y : BitVec v) :
    writeField mask w k (x ++ y) = writeField mask w (k + v) x ++ writeField mask w k y := by
  unfold writeField
  rw [← extract_append_extract mask, ← extract_append_extract w, BitVec.not_append, BitVec.and_append, BitVec.and_append,
    BitVec.or_append]

variable {mask k}

theorem writeField_kept (x : BitVec n) (h : mask.extractLsb' k n = 0) : writeField mask w k x = x := by
  simp [writeField, h]

theorem writeField_written (x : BitVec n) (h : mask.extractLsb' k n = BitVec.allOnes n) :
    writeField mask w k x = w.extractLsb' k n := by
  simp [writeField, h]

/-- Bits that are or'ed in where the mask has none stay. -/
theorem writeField_or (x y : BitVec n) (h : y &&& mask.extractLsb' k n = 0) :
    writeField mask w k (x ||| y) = writeField mask w k x ||| y := by
  apply BitVec.eq_of_getLsbD_eq
  intro i hi
  have bit : (y &&& mask.extractLsb' k n).getLsbD i = false := by rw [h]; exact BitVec.getLsbD_zero
  simp only [writeField, BitVec.getLsbD_or, BitVec.getLsbD_and, BitVec.getLsbD_not, hi, decide_true, Bool.true_and] at bit ⊢
  revert bit
  generalize x.getLsbD i = a, y.getLsbD i = b, (mask.extractLsb' k n).getLsbD i = m, (w.extractLsb' k n).getLsbD i = c
  revert a b m c
  decide

/-- A register of less than 64 bits, whose mask has no ones above it. -/
theorem writeField_setWidth (x : BitVec n) (hn : n ≤ 64) (h : mask.extractLsb' n (64 - n) = 0) :
    writeField mask w 0 (x.setWidth 64) = (writeField mask w 0 x).setWidth 64 := by
  apply BitVec.eq_of_getLsbD_eq
  intro i hi
  by_cases low : i < n
  · simp [writeField, hi, low]
  · have above : mask.getLsbD i = false := by
      have bit := congrArg (BitVec.getLsbD · (i - n)) h
      simpa [show i - n < 64 - n by omega, show n + (i - n) = i by omega] using bit
    simp [writeField, low, above, BitVec.getLsbD_of_ge x i (not_lt.1 low)]

variable {w} in
/-- A register of less than 64 bits as it is read, from what the write makes of its own bits. -/
theorem setWidth_eq_writeField {x y : BitVec n} (hn : n ≤ 64) (h : mask.extractLsb' n (64 - n) = 0)
    (written : writeField mask w 0 x = y) : y.setWidth 64 = writeField mask w 0 (x.setWidth 64) := by
  rw [← written]
  exact (writeField_setWidth w x hn h).symm

/-- A bit as a field. -/
theorem ofBool_getLsbD (k : Nat) : BitVec.ofBool (w.getLsbD k) = w.extractLsb' k 1 := by
  rw [BitVec.getLsbD_eq_extractLsb']
  generalize w.extractLsb' k 1 = x
  revert x
  decide

end

/-! The registers (45:R383): what is read after a write of the fields a move may write. -/

section

variable (w : DWord)

theorem Index.writeField_image (x : Index) :
    writeField (cp0WriteMask 0) w 0 x.image = ({ x with index := w.extractLsb' 0 5 } : Index).image := by
  unfold Index.image
  simp only [writeField_append]
  simp (disch := decide) only [writeField_kept, writeField_written]

theorem EntryLo.writeField_image (x : EntryLo) :
    writeField 0x0FFFFFFF w 0 x.image = (EntryLo.ofImage w).image := by
  unfold EntryLo.image EntryLo.ofImage
  simp only [writeField_append, ofBool_getLsbD]
  simp (disch := decide) only [writeField_kept, writeField_written]

theorem Context.writeField_image (x : Context) :
    writeField (cp0WriteMask 4) w 0 x.image = ({ x with pteBase := w.extractLsb' 25 39 } : Context).image := by
  unfold Context.image
  simp only [writeField_append]
  simp (disch := decide) only [writeField_kept, writeField_written]

theorem EntryHi.writeField_image (x : EntryHi) :
    writeField (cp0WriteMask 10) w 0 x.image
      = ({ r := w.extractLsb' 62 2, vpn2 := w.extractLsb' 11 29, asid := w.extractLsb' 0 8 } : EntryHi).image := by
  unfold EntryHi.image
  simp only [writeField_append]
  simp (disch := decide) only [writeField_kept, writeField_written]

theorem Status.writeField_image (x : Status) : writeField (cp0WriteMask 12) w 0 x.image = (Status.write w x).image := by
  unfold Status.image Status.write
  simp only [writeField_append, ofBool_getLsbD]
  simp (disch := decide) only [writeField_kept, writeField_written]

theorem Cause.writeField_image (x : Cause) (timer : Bool) (pins : BitVec 5) :
    writeField (cp0WriteMask 13) w 0 (x.image (BitVec.ofBool timer ++ pins ++ x.ipSw))
      = ({ x with ipSw := w.extractLsb' 8 2 } : Cause).image (BitVec.ofBool timer ++ pins ++ w.extractLsb' 8 2) := by
  unfold Cause.image
  simp only [writeField_append]
  simp (disch := decide) only [writeField_kept, writeField_written]

/-- PageMask (10:R36). -/
theorem writeField_pageMask (x : BitVec 8) :
    writeField (cp0WriteMask 5) w 0 ((0 : BitVec 13) ++ x ++ (0 : BitVec 11))
      = (0 : BitVec 13) ++ w.extractLsb' 11 8 ++ (0 : BitVec 11) := by
  simp only [writeField_append]
  simp (disch := decide) only [writeField_kept, writeField_written]

theorem WatchLo.writeField_image (x : WatchLo) :
    writeField (cp0WriteMask 18) w 0 x.image
      = ({ paddr0 := w.extractLsb' 3 29, r := w.getLsbD 1, w := w.getLsbD 0 } : WatchLo).image := by
  unfold WatchLo.image
  simp only [writeField_append, ofBool_getLsbD]
  simp (disch := decide) only [writeField_kept, writeField_written]

theorem XContext.writeField_image (x : XContext) :
    writeField (cp0WriteMask 20) w 0 x.image = ({ x with pteBase := w.extractLsb' 35 29 } : XContext).image := by
  unfold XContext.image
  simp only [writeField_append]
  simp (disch := decide) only [writeField_kept, writeField_written]

/-- The fields of TagLo in the layout of log 8. -/
theorem TagLo.image_eq_append (x : TagLo) :
    x.image = x.ptag ++ BitVec.ofBool x.v ++ BitVec.ofBool x.d ++ BitVec.ofBool x.w ++ (0 : BitVec 5)
      ++ BitVec.ofBool x.wPrime ++ BitVec.ofBool x.p := by
  rw [← BitVec.setWidth_eq (x := _ ++ BitVec.ofBool x.p)]
  simp only [BitVec.setWidth_append_eq_shiftLeft_setWidth_or, BitVec.shiftLeft_or_distrib, ← BitVec.shiftLeft_add,
    BitVec.ofNat_eq_ofNat, BitVec.setWidth_zero, BitVec.or_zero]
  unfold TagLo.image place32
  rw [show tagLoLayout.p = 0 from rfl, BitVec.shiftLeft_zero]
  rfl

theorem TagLo.writeField_image (x : TagLo) : writeField (cp0WriteMask 28) w 0 x.image = (TagLo.ofImage w).image := by
  rw [TagLo.image_eq_append, TagLo.image_eq_append]
  unfold TagLo.ofImage
  simp only [writeField_append, ofBool_getLsbD]
  simp (disch := decide) only [writeField_kept, writeField_written]
  rfl

/-- The fields of Config in the layout of log 7, and the fixed bits between them. -/
theorem ConfigReg.image_eq_append (x : ConfigReg) :
    x.image = ((0 : BitVec 1) ++ x.ec ++ x.ep ++ BitVec.ofBool x.ad ++ (0 : BitVec 7) ++ BitVec.ofBool x.be ++ (0 : BitVec 12)
      ++ x.k0) ||| (Config.configFixedBits &&& ~~~configFieldMask) := by
  rw [← BitVec.setWidth_eq (x := _ ++ x.k0)]
  simp only [BitVec.setWidth_append_eq_shiftLeft_setWidth_or, BitVec.shiftLeft_or_distrib, ← BitVec.shiftLeft_add,
    BitVec.ofNat_eq_ofNat, BitVec.setWidth_zero, BitVec.zero_shiftLeft, BitVec.or_zero, BitVec.zero_or]
  unfold ConfigReg.image place32
  rw [show configLayout.k0 = 0 from rfl, BitVec.shiftLeft_zero]
  rfl

theorem ConfigReg.writeField_image (x : ConfigReg) :
    writeField (cp0WriteMask 16) w 0 x.image
      = ({ x with ep := w.extractLsb' 24 4, ad := w.getLsbD 23, k0 := w.extractLsb' 0 3 } : ConfigReg).image := by
  have fixed : Config.configFixedBits &&& ~~~configFieldMask &&& (cp0WriteMask 16).extractLsb' 0 32 = 0 := by
    rw [BitVec.and_assoc, show ~~~configFieldMask &&& (cp0WriteMask 16).extractLsb' 0 32 = 0 by decide]
    exact BitVec.and_zero
  rw [ConfigReg.image_eq_append, ConfigReg.image_eq_append, writeField_or _ _ _ fixed]
  simp only [writeField_append, ofBool_getLsbD]
  simp (disch := decide) only [writeField_kept, writeField_written]

end

/-! Reads after a write (45:R383). -/

section

variable (s : State) (w : DWord)

/-- The register written: the cases are its rows of `State.cp0Write`; the last one is a register without writable bits. -/
theorem State.cp0Read_cp0Write_same (rd : Reg) :
    (s.cp0Write rd w).cp0Read rd = writeField (cp0WriteMask rd) w 0 (s.cp0Read rd) := by
  unfold State.cp0Write
  split
  case h_20 =>
    have unwritable : cp0WriteMask rd = 0 := by
      unfold cp0WriteMask
      split
      case h_20 => rfl
      all_goals contradiction
    rw [unwritable, writeField_kept _ _ (by decide)]
  all_goals obtain rfl := eq_ofNat_of_toNat ‹rd.toNat = _›
  case h_1 => exact setWidth_eq_writeField (by decide) (by decide) (Index.writeField_image w _)
  case h_2 => exact (EntryLo.writeField_image w _).symm
  case h_3 => exact (EntryLo.writeField_image w _).symm
  case h_4 => exact (Context.writeField_image w _).symm
  case h_5 => exact setWidth_eq_writeField (by decide) (by decide) (writeField_pageMask w _)
  case h_6 | h_7 | h_9 | h_14 | h_17 =>
    exact setWidth_eq_writeField (by decide) (by decide) (writeField_written w _ (by decide))
  case h_8 => exact (EntryHi.writeField_image w _).symm
  case h_10 => exact setWidth_eq_writeField (by decide) (by decide) (Status.writeField_image w _)
  case h_11 => exact setWidth_eq_writeField (by decide) (by decide) (Cause.writeField_image w _ _ _)
  case h_12 | h_19 => exact ((writeField_written w _ (by decide)).trans (extract_whole w)).symm
  case h_13 => exact setWidth_eq_writeField (by decide) (by decide) (ConfigReg.writeField_image w _)
  case h_15 => exact setWidth_eq_writeField (by decide) (by decide) (WatchLo.writeField_image w _)
  case h_16 => exact (XContext.writeField_image w _).symm
  case h_18 => exact setWidth_eq_writeField (by decide) (by decide) (TagLo.writeField_image w _)

/-- Every other register but Random, which a write of Wired sets, and Cause, in which one of Count or Compare moves IP7. -/
theorem State.cp0Read_cp0Write_other {r rd : Reg} (hr : r ≠ rd) (random : r ≠ 1) (cause : r = 13 → rd ≠ 9 ∧ rd ≠ 11) :
    (s.cp0Write rd w).cp0Read r = s.cp0Read r := by
  have differs : r.toNat ≠ rd.toNat := fun e => hr (BitVec.eq_of_toNat_eq e)
  have notRandom : r.toNat ≠ 1 := fun e => random (BitVec.eq_of_toNat_eq e)
  have notCount (h : rd.toNat = 9) : r.toNat ≠ 13 := fun e =>
    (cause (BitVec.eq_of_toNat_eq e)).1 (BitVec.eq_of_toNat_eq h)
  have notCompare (h : rd.toNat = 11) : r.toNat ≠ 13 := fun e =>
    (cause (BitVec.eq_of_toNat_eq e)).2 (BitVec.eq_of_toNat_eq h)
  unfold State.cp0Write
  split
  case h_20 => rfl
  -- By the register written, then by the register read: where these differ, the write leaves the field that is read.
  case' h_7 => have notCause := notCount ‹_›
  case' h_9 => have notCause := notCompare ‹_›
  all_goals
    rw [‹rd.toNat = _›] at differs
    unfold State.cp0Read
    split
    all_goals first | contradiction | rfl

theorem State.advance_cp0Read {r : Reg} (random : r ≠ 1) : s.advance.cp0Read r = s.cp0Read r := by
  have notRandom : r.toNat ≠ 1 := fun e => random (BitVec.eq_of_toNat_eq e)
  unfold State.cp0Read
  split
  case h_2 => contradiction
  all_goals rfl

/-- A write of Wired sets Random to 31; no other write changes it (10:R33). -/
theorem State.cp0Write_random_eq (rd : Reg) : (s.cp0Write rd w).cp0.random = if rd = 6 then 31 else s.cp0.random := by
  unfold State.cp0Write
  split
  case h_20 => exact (if_neg (by rintro rfl; contradiction)).symm
  all_goals
    obtain rfl := eq_ofNat_of_toNat ‹rd.toNat = _›
    rfl

/-- Only a write of Count or Compare moves the timer request (60:R440). -/
theorem State.cp0Write_timerPending {rd : Reg} (count : rd ≠ 9) (compare : rd ≠ 11) :
    (s.cp0Write rd w).timerPending = s.timerPending := by
  unfold State.cp0Write
  split
  case h_7 => exact absurd (BitVec.eq_of_toNat_eq ‹_›) count
  case h_9 => exact absurd (BitVec.eq_of_toNat_eq ‹_›) compare
  all_goals rfl

end

/-! The moves (45:R361 to R364). -/

section

variable {rt rd : Reg} {s : State}

/-- A move to a CP0 register: the advance, then the write. -/
theorem State.advance_cp0Write_writes (s : State) (rd : Reg) (v : DWord) :
    WritesCp0Register (.next (s.advance.cp0Write rd v)) s rd v := by
  have frame := s.advance.cp0Write_frame rd v
  have mem := congrArg State.mem frame
  have dcache := congrArg State.dcache frame
  refine ⟨_, rfl, ?same, fun r hr random cause => ?other, s.advance.cp0Write_random_eq v rd, ?compare,
    s.advance.cp0Write_timerPending v, (congrArg State.pc frame :), (congrArg State.npc frame :), (congrArg State.ds frame :),
    fun r _ => (congrArg (State.reg r) frame :), ⟨(congrArg State.hi frame :), (congrArg State.lo frame :)⟩,
    (congrArg State.tlb frame :), (congrArg State.powerMode frame :), mem, (congrArg State.icache frame :), dcache,
    State.byteAt_congr dcache mem⟩
  case same =>
    by_cases random : rd = 1
    · rw [if_pos random, random]
    · rw [if_neg random, State.cp0Read_cp0Write_same, writeField_zero, State.advance_cp0Read _ random]
  case other => rw [State.cp0Read_cp0Write_other _ _ hr random cause, State.advance_cp0Read _ random]
  case compare => rintro rfl; rfl

/-- Status takes its fields from the low word. -/
theorem Status.write_of_low32_eq {v w : DWord} (h : low32 v = low32 w) (x : Status) : Status.write v x = Status.write w x := by
  have bit (i : Nat) (hi : i < 32) : v.getLsbD i = w.getLsbD i := by
    have low (u : DWord) : (low32 u).getLsbD i = u.getLsbD i := by simp [low32, hi]
    rw [← low v, ← low w, h]
  have field (k n : Nat) (hk : k + n ≤ 32) : v.extractLsb' k n = w.extractLsb' k n := by
    have low (u : DWord) : (low32 u).extractLsb' k n = u.extractLsb' k n := BitVec.extractLsb'_extractLsb'_of_le hk
    rw [← low v, ← low w, h]
  unfold Status.write
  simp (disch := decide) only [bit, field]

/-- The value MTC0 writes has the low word of the register; it is the register where that holds a word (45:R362, U15). -/
theorem State.low32_mtc0Value (s : State) (v : DWord) : low32 (s.mtc0Value v) = low32 v := by
  unfold State.mtc0Value
  split
  · rfl
  · exact (extract_append_low (s.freeBits .mtc0Upper 32) (low32 v) 0 32 (by omega)).trans (extract_whole _)

/-- The mode that MTC0 leaves: only a write of Status changes it. -/
theorem State.mode_advance_cp0Write (s : State) (rd : Reg) (v : DWord) :
    (s.advance.cp0Write rd v).mode = if rd = 12 then (Status.write v s.cp0.status).mode else s.mode := by
  by_cases status : rd = 12
  · subst status; rfl
  · rw [if_neg status, State.mode, State.cp0Write_status status]; rfl

theorem namesCp0Register_eq (used : cp0Unused rd = false) (k : Host.Outcome State Fault Refusal) :
    namesCp0Register rd k = k := if_neg (by simp [used])

theorem exec_mfc0 (usable : s.cp0Usable = true) (used : cp0Unused rd = false) :
    exec (.mfc0 rt rd) s = s.result rt (sext32 (low32 (s.cp0Read rd))) :=
  (State.requiresCp0_eq _ usable).trans (namesCp0Register_eq used _)

theorem exec_mtc0 (usable : s.cp0Usable = true) (used : cp0Unused rd = false) :
    exec (.mtc0 rt rd) s = (s.advance.cp0Write rd (s.mtc0Value (s.reg rt))).inDefinedMode :=
  (State.requiresCp0_eq _ usable).trans (namesCp0Register_eq used _)

section

variable (usable : s.cp0Usable = true) (wide64 : s.is64bitOps = true) (used : cp0Unused rd = false) (wide : cp0Wide rd = true)

include usable wide64 used wide

theorem exec_dmfc0 : exec (.dmfc0 rt rd) s = s.result rt (s.cp0Read rd) :=
  (State.requiresCp0_requires64_eq _ usable wide64).trans ((namesCp0Register_eq used _).trans (if_pos wide))

theorem exec_dmtc0 : exec (.dmtc0 rt rd) s = .next (s.advance.cp0Write rd (s.reg rt)) :=
  (State.requiresCp0_requires64_eq _ usable wide64).trans ((namesCp0Register_eq used _).trans (if_pos wide))

end

end

/-! The obligations. -/

/-- Settles O51. -/
theorem cp0WriteFields : Obligations.Cp0WriteFields := fun rd w s _ =>
  (s.cp0Read_cp0Write_same w rd).trans (writeField_zero ..)

/-- Settles O52. -/
theorem cp0Moves : Obligations.Cp0Moves := by
  intro rt rd s usable defined used
  have status : Status.write (s.mtc0Value (s.reg rt)) s.cp0.status = Status.write (s.reg rt) s.cp0.status :=
    Status.write_of_low32_eq (s.low32_mtc0Value _) _
  have mode := s.mode_advance_cp0Write rd (s.mtc0Value (s.reg rt))
  rw [status] at mode
  refine ⟨?mfc0, fun named => ?mtc0, fun h12 unnamed => ?refused, fun ops wide => ⟨?dmfc0, ?dmtc0⟩⟩
  case mfc0 => rw [exec_mfc0 usable used]; exact s.result_writes rt rfl
  case mtc0 =>
    have modeDefined : (s.advance.cp0Write rd (s.mtc0Value (s.reg rt))).mode ≠ .undefined := by
      rw [mode]
      split
      · exact named ‹_›
      · exact defined
    rw [exec_mtc0 usable used, State.inDefinedMode, if_neg modeDefined]
    exact ⟨_, s.low32_mtc0Value _, fun word => if_pos word, s.advance_cp0Write_writes rd _⟩
  case refused =>
    rw [if_pos h12] at mode
    rw [exec_mtc0 usable used, State.inDefinedMode, if_pos (mode.trans unnamed)]
  case dmfc0 => rw [exec_dmfc0 usable ops used wide]; exact s.result_writes rt rfl
  case dmtc0 => rw [exec_dmtc0 usable ops used wide]; exact s.advance_cp0Write_writes rd _

end Sys2Proof.Machine
end

section
/-! PROOFS. STANDBY, SUSPEND and HIBERNATE (46:R390 to R392): O58. -/

namespace Sys2Proof.Machine

section

variable {s : State}

/-- Where CP0 is usable an instruction that enters a power mode completes, whatever the mode (46:R390 to R392). -/
theorem State.enterPowerMode_eq (usable : s.cp0Usable = true) (m : PowerMode) :
    s.enterPowerMode m = .next { s.advance with powerMode := m } :=
  State.requiresCp0_eq _ usable

theorem exec_standby : exec .standby s = s.enterPowerMode .standby := rfl

theorem exec_suspend : exec .suspend s = s.enterPowerMode .suspend := rfl

theorem exec_hibernate : exec .hibernate s = s.enterPowerMode .hibernate := rfl

/-- The power mode is no part of what the frames speak of: after the advance its change leaves them as the advance does. -/
theorem State.enterPowerMode_changes (usable : s.cp0Usable = true) (m : PowerMode) :
    ∃ t, s.enterPowerMode m = .next t ∧ t.powerMode = m ∧ t.pc = s.npc ∧ t.npc = s.npc + 4 ∧ t.ds = false
      ∧ t.cp0 = { s.cp0 with random := nextRandom s.cp0.random s.cp0.wired } ∧ t.tlb = s.tlb
      ∧ KeepsRegs [] s t ∧ KeepsHiLo s t ∧ KeepsMemory s t := by
  have regs : KeepsRegs [] s { s.advance with powerMode := m } := fun _ _ => rfl
  have hiLo : KeepsHiLo s { s.advance with powerMode := m } := ⟨rfl, rfl⟩
  have memory : KeepsMemory s { s.advance with powerMode := m } := ⟨rfl, rfl, rfl, State.byteAt_congr rfl rfl⟩
  exact ⟨_, State.enterPowerMode_eq usable m, rfl, rfl, rfl, rfl, rfl, rfl, regs, hiLo, memory⟩

end

/-- Settles O58. -/
theorem powerInstructions : Obligations.PowerInstructions := by
  rintro i m s usable (⟨rfl, rfl⟩ | ⟨rfl, rfl⟩ | ⟨rfl, rfl⟩)
  case inl => rw [exec_standby]; exact State.enterPowerMode_changes usable _
  case inr.inl => rw [exec_suspend]; exact State.enterPowerMode_changes usable _
  case inr.inr => rw [exec_hibernate]; exact State.enterPowerMode_changes usable _

end Sys2Proof.Machine
end

section
/-! PROOFS. What an instruction may do to the machine's control (60:R401, R430, R431; 45:R360): O59, O60 and O11. Every instruction
ends early, or completes; first what completion leaves of the mode and of the mark `trapped`, then the obligations. -/

namespace Sys2Proof.Machine

/-- An outcome that, if it is a next state, is an exception, TLB shutdown or a hang, or a state with the property `p`. -/
def TrapsOr (s : State) (p : State → Prop) (o : Host.Outcome State Fault Refusal) : Prop :=
  ∀ t, o = .next t → Trapped s t ∨ p t

theorem Trapped.takeException (s : State) (e : Exc) : Trapped s (s.takeException e) :=
  ⟨s, SameCore.refl s, .inl ⟨e, rfl⟩⟩

theorem Trapped.tlbShutdown (s : State) : Trapped s s.tlbShutdown := ⟨s, SameCore.refl s, .inr (.inl rfl)⟩

section

variable {s : State} {p : State → Prop} {o k : Host.Outcome State Fault Refusal}

theorem TrapsOr.next {t : State} (h : p t) : TrapsOr s p (.next t) := fun _ e => by cases e; exact .inr h

theorem TrapsOr.trapped {t : State} (h : Trapped s t) : TrapsOr s p (.next t) := fun _ e => by cases e; exact .inl h

theorem TrapsOr.refused (r : Refusal) : TrapsOr s p (.refused r) := fun _ e => nomatch e

theorem TrapsOr.ite {c : Prop} [Decidable c] (h : c → TrapsOr s p o) (g : TrapsOr s p k) :
    TrapsOr s p (if c then o else k) := by
  split
  · exact h ‹_›
  · exact g

theorem TrapsOr.requiresCp0 (h : TrapsOr s p k) : TrapsOr s p (s.requiresCp0 k) :=
  .ite (fun _ => h) (.trapped (.takeException s _))

theorem TrapsOr.requires64 (h : TrapsOr s p k) : TrapsOr s p (s.requires64 k) :=
  .ite (fun _ => h) (.ite (fun _ => .refused _) (.trapped (.takeException s _)))

theorem TrapsOr.namesCp0Register {rd : Reg} (h : TrapsOr s p k) : TrapsOr s p (namesCp0Register rd k) :=
  .ite (fun _ => .refused _) h

theorem TrapsOr.inDefinedMode {t : State} (h : p t) : TrapsOr s p t.inDefinedMode := .ite (fun _ => .refused _) (.next h)

/-- A CACHE operation whose own part completes (45:R373). -/
theorem TrapsOr.cacheOperation {base : Reg} {offset : BitVec 16} {op : DWord → PAddr → State → Access Unit}
    (completes : ∀ va pa, ∃ u, op va pa s = .ok () u ∧ p u.advance) : TrapsOr s p (s.cacheOperation base offset op) := by
  refine .requiresCp0 fun t ht => ?_
  have tame := s.translate_tame (s.effectiveAddress base offset) .load
  cases translated : s.translate (s.effectiveAddress base offset) .load with
  | ok tr v =>
    obtain rfl := State.translate_state translated
    obtain ⟨u, done, hu⟩ := completes (v.effectiveAddress base offset) tr.pa
    rw [translated, Access.andThen, done] at ht
    cases ht
    exact .inr hu
  | raise e v => rw [translated] at ht tame; cases ht; exact .inl ⟨v, tame, .inl ⟨e, rfl⟩⟩
  | shutdown v => rw [translated] at ht tame; cases ht; exact .inl ⟨v, tame, .inr (.inl rfl)⟩
  | hang v => rw [translated] at ht tame; cases ht; exact .inl ⟨v, tame, .inr (.inr rfl)⟩
  | refuse r => rw [translated] at ht; cases ht
  | fault f => rw [translated] at ht; cases ht

end

/-! What completion leaves of the mode and of `trapped`. -/

/-- The instructions that may change the operating mode when they complete: ERET and MTC0 to Status (60:R430). -/
def Instr.setsMode (i : Instr) : Bool :=
  match i with
  | .eret => true
  | .mtc0 _ rd => rd == 12
  | _ => false

/-- A state that an instruction leaves when it completes, as far as the mode and the mark `trapped` go. -/
structure CompletedMode (setsMode : Bool) (s t : State) : Prop where
  trapped : t.trapped = false
  mode : setsMode = false → t.mode = s.mode

theorem Completed.completedMode {s t : State} (h : Completed s t) (setsMode : Bool) : CompletedMode setsMode s t :=
  ⟨h.trapped, fun _ => by unfold State.mode; rw [h.cp0]⟩

theorem State.cp0Write_trapped (rd : Reg) (w : DWord) (s : State) : (s.cp0Write rd w).trapped = s.trapped := by
  rw [State.cp0Write_frame]

theorem execMtc0_trapsOr (rt rd : Reg) (s : State) : TrapsOr s (CompletedMode (rd == 12) s) (execMtc0 rt rd s) := by
  refine .requiresCp0 (.namesCp0Register (.inDefinedMode ⟨s.advance.cp0Write_trapped rd _, fun other => ?_⟩))
  rw [State.mode_advance_cp0Write, if_neg (by simpa using other)]

/-- DMTC0 does not reach Status, which is 32 bits wide (45:R364). -/
theorem execDmtc0_trapsOr (rt rd : Reg) (s : State) : TrapsOr s (CompletedMode false s) (execDmtc0 rt rd s) := by
  refine .requiresCp0 (.requires64 (.namesCp0Register (.ite (fun wide => .next ?_) (.refused _))))
  have notStatus : rd ≠ 12 := by rintro rfl; revert wide; decide
  refine ⟨s.advance.cp0Write_trapped rd _, fun _ => ?_⟩
  rw [State.mode_advance_cp0Write, if_neg notStatus]

theorem execTlbp_trapsOr (s : State) : TrapsOr s (CompletedMode false s) (execTlbp s) := by
  refine .requiresCp0 ?_
  split
  · exact .next ⟨rfl, fun _ => rfl⟩
  · exact .next ⟨rfl, fun _ => rfl⟩
  · exact .trapped (.tlbShutdown s)

theorem execEret_trapsOr (s : State) : TrapsOr s (CompletedMode true s) (execEret s) := by
  refine .requiresCp0 (.ite (fun _ => .refused _) (.inDefinedMode ⟨?_, nofun⟩))
  rw [State.returnFromException_eq]
  rfl

/-- Every instruction ends early, or completes with `trapped` cleared and, but for ERET and MTC0 to Status, in the old mode. -/
theorem exec_trapsOr (i : Instr) (s : State) : TrapsOr s (CompletedMode (Instr.setsMode i) s) (exec i s) := by
  cases hc : Instr.isControl i with
  | false => exact fun t ht => ((exec_ends i s hc).cases t ht).imp_right (·.completedMode _)
  | true =>
    cases i with
    | mtc0 rt rd => exact execMtc0_trapsOr rt rd s
    | dmtc0 rt rd => exact execDmtc0_trapsOr rt rd s
    | tlbr => exact .requiresCp0 (.next ⟨rfl, fun _ => rfl⟩)
    | tlbwi => exact .requiresCp0 (.ite (fun _ => .next ⟨rfl, fun _ => rfl⟩) (.refused _))
    | tlbwr => exact .requiresCp0 (.ite (fun _ => .next ⟨rfl, fun _ => rfl⟩) (.refused _))
    | tlbp => exact execTlbp_trapsOr s
    | eret => exact execEret_trapsOr s
    | cacheIndexLoadTagI base offset => exact .cacheOperation fun _ _ => ⟨_, rfl, rfl, fun _ => rfl⟩
    | cacheIndexLoadTagD base offset => exact .cacheOperation fun _ _ => ⟨_, rfl, rfl, fun _ => rfl⟩
    | standby => exact .requiresCp0 (.next ⟨rfl, fun _ => rfl⟩)
    | suspend => exact .requiresCp0 (.next ⟨rfl, fun _ => rfl⟩)
    | hibernate => exact .requiresCp0 (.next ⟨rfl, fun _ => rfl⟩)
    | _ => exact Bool.noConfusion hc

/-! The obligations. -/

/-- The instructions that could change control state check CP0 before anything else (45:R360). -/
theorem exec_control_unusable {i : Instr} {s : State} (control : Instr.isControl i = true) (unusable : s.cp0Usable = false) :
    exec i s = .next (s.takeException (.cpU 0)) := by
  cases i with
  | mtc0 | dmtc0 | tlbr | tlbwi | tlbwr | tlbp | eret | cacheIndexLoadTagI | cacheIndexLoadTagD | standby | suspend
  | hibernate => exact State.requiresCp0_unusable _ unusable
  | _ => exact Bool.noConfusion control

/-- Settles O59. -/
theorem protection : Obligations.Protection := by
  intro i s t mode cu0 ht
  have unusable : s.cp0Usable = false := by rcases mode with h | h <;> simp [State.cp0Usable, h, cu0]
  cases control : Instr.isControl i with
  | false =>
    rcases (exec_ends i s control).cases t ht with trapped | completed
    · exact .inr trapped.endsEarly
    · exact .inl completed.keepsControl
  | true =>
    rw [exec_control_unusable control unusable] at ht
    cases ht
    exact .inr (Trapped.takeException s _).endsEarly

theorem SameCore.keepsControl {s t : State} (h : SameCore s t) : KeepsControl s t := by
  rw [h.same]
  constructor <;> rfl

/-- Of what ends an instruction early, only an exception changes the mode: TLB shutdown and a hang keep it. -/
theorem Trapped.mode {s t : State} (h : Trapped s t) :
    t.mode = s.mode ∨ ∃ e u, SameCore s u ∧ t = u.takeException e := by
  obtain ⟨u, hu, ⟨e, rfl⟩ | rfl | rfl⟩ := h
  · exact .inr ⟨e, u, hu, rfl⟩
  · exact .inl (by rw [hu.same]; rfl)
  · exact .inl (by rw [hu.same]; rfl)

/-- Settles O60: an instruction other than those two keeps the mode or takes an exception, which leads to kernel mode. -/
theorem modeChanges : Obligations.ModeChanges := by
  intro i s t ht notEret notStatus
  have keeps : Instr.setsMode i = false := by
    cases i with
    | eret => exact absurd rfl notEret
    | mtc0 rt rd => exact beq_false_of_ne fun status => notStatus rt (by rw [status])
    | _ => rfl
  have ends : t.mode = s.mode ∨ ∃ e u, SameCore s u ∧ t = u.takeException e :=
    (exec_trapsOr i s t ht).elim Trapped.mode fun completed => .inl (completed.mode keeps)
  rcases ends with same | ⟨e, u, core, rfl⟩
  · exact ⟨fun kernel => same.trans kernel, fun changed => absurd same changed⟩
  · have kernel := State.takeException_mode e u
    exact ⟨fun _ => kernel, fun _ => ⟨kernel, e, u, core.keepsControl, core.cp0, rfl⟩⟩

/-- The step of a machine that runs: no reset, NMI or stop is in its way (60:R401). -/
theorem State.Runs.step_eq {s : State} (h : s.Runs) : step s = State.thenGap s.ordinaryStep := by
  simp only [step, State.cycle, h.fullspeed, State.fullspeedStep, h.noColdReset, h.noSoftReset, h.noHang, h.noNmi,
    h.noShutdown, h.definedMode, Bool.false_eq_true, if_false]

theorem State.interruptPending_iff (s : State) :
    s.interruptPending = true ↔ s.cp0.status.ie = true ∧ s.cp0.status.exl = false ∧ s.cp0.status.erl = false
      ∧ s.causeIp &&& s.cp0.status.im ≠ 0 := by
  simp only [State.interruptPending, Bool.and_eq_true, Bool.not_eq_true', bne_iff_ne, and_assoc]

/-- The instruction runs, or loses against an interrupt unless it ended early (60:R401, log 42). -/
theorem State.ordinaryStep_of_next {s t : State} (h : s.runInstruction = .next t) :
    (s.interruptPending = false → s.ordinaryStep = .next t)
    ∧ (s.interruptPending = true → s.ordinaryStep = .next (if t.trapped then t else s.takeException .int)) := by
  unfold State.ordinaryStep
  rw [h]
  refine ⟨fun none => ?_, fun pending => ?_⟩
  · rw [none]; rfl
  · rw [pending, if_pos rfl]
    exact (apply_ite Host.Outcome.next ..).symm

theorem State.takeException_trapped (e : Exc) (s : State) : (s.takeException e).trapped = true := by cases e <;> rfl

/-- Settles O11. -/
theorem interruptsTaken : Obligations.InterruptsTaken := by
  refine ⟨fun s => ⟨s.interruptPending_iff, rfl, rfl, fun runs t ht => ?taken⟩, fun i s t ht trapped => ?early,
    fun e u => ⟨u.takeException_trapped e, rfl, rfl⟩⟩
  case taken =>
    obtain ⟨runsOn, interrupted⟩ := State.ordinaryStep_of_next ht
    rw [runs.step_eq]
    exact ⟨fun none => congrArg _ (runsOn none), fun pending => congrArg _ (interrupted pending)⟩
  case early =>
    rcases exec_trapsOr i s t ht with early | completed
    · exact early.endsEarly
    · exact Bool.noConfusion (completed.trapped.symm.trans trapped)

end Sys2Proof.Machine
end

section
/-! PROOFS. The power modes (60:R450, 46:R393): O13; and the gap between two steps (60:R401, R420, R440; 20:R153): O14. -/

namespace Sys2Proof.Machine

/-! The power modes. -/

section

variable {s : State}

theorem State.cycle_of_sleep (h : s.powerMode = .standby ∨ s.powerMode = .suspend) : s.cycle = .next s.sleepStep := by
  unfold State.cycle
  rcases h with mode | mode <;> rw [mode]

/-- Without a reset or NMI only the wake request decides (60:R450). -/
theorem State.sleepStep_of_no_reset (cold : s.coldReset = false) (soft : s.softReset = false) (nmi : s.nmiPending = false) :
    s.sleepStep = if s.wakeRequest then { s with powerMode := .fullspeed } else s := by
  simp only [State.sleepStep, cold, soft, nmi, Bool.false_eq_true, if_false]

/-- An enabled interrupt wakes the machine, whatever masked ones do (D18, log 10). -/
theorem State.wakeRequest_of_interruptPending (h : s.interruptPending = true) : s.wakeRequest = true := by
  rw [State.wakeRequest, h, Bool.true_or]

theorem State.wakeRequest_of_no_source (h : s.causeIp = 0) : s.wakeRequest = false := by
  simp [State.wakeRequest, State.interruptPending, h]

end

/-- Settles O13. -/
theorem powerModeSteps : Obligations.PowerModeSteps := by
  intro s
  refine ⟨fun sleeps => ?sleep, fun hibernates => ?hibernate⟩
  case hibernate =>
    rw [State.cycle, hibernates]
    rfl
  case sleep =>
    rw [State.cycle_of_sleep sleeps]
    refine ⟨fun cold => ?_, fun cold soft => ?_, fun cold soft nmi => ?_, fun cold soft nmi => ?wake⟩
    · simp only [State.sleepStep, cold, if_true]
    · simp only [State.sleepStep, cold, soft, Bool.false_eq_true, if_false, if_true]
    · simp only [State.sleepStep, cold, soft, nmi, Bool.false_eq_true, if_false, if_true]
    case wake =>
      rw [State.sleepStep_of_no_reset cold soft nmi]
      refine ⟨fun pending => ?_, fun none => ?_, ?_⟩
      · rw [State.wakeRequest_of_interruptPending pending]; rfl
      · rw [State.wakeRequest_of_no_source none]; rfl
      · cases s.wakeRequest
        · exact .inl rfl
        · exact .inr rfl

/-! Count and the timer (60:R440). -/

/-- Count passes Compare if one of the values it takes is Compare: the first of them after `compare - count` steps. -/
theorem countReaches_iff {count compare : Word32} {n : Nat} :
    countReaches count compare n = true ↔ ∃ k, 1 ≤ k ∧ k ≤ n ∧ count + BitVec.ofNat 32 k = compare := by
  rw [countReaches, decide_eq_true_eq]
  constructor
  · intro reached
    exact ⟨(compare - count - 1).toNat + 1, by omega, by omega, by bv_omega⟩
  · rintro ⟨k, first, last, rfl⟩
    bv_omega

theorem State.advanceCount_of_hibernate {s : State} (h : s.powerMode = .hibernate) : s.advanceCount = s := if_pos h

theorem State.advanceCount_eq {s : State} (h : s.powerMode ≠ .hibernate) :
    s.advanceCount = { s with
      cp0 := { s.cp0 with count := s.cp0.count + BitVec.ofNat 32 (Config.countAdvance s.freeCount) }
      timerPending :=
        s.timerPending || countReaches s.cp0.count s.cp0.compare (Config.countAdvance s.freeCount) } := if_neg h

theorem State.advanceCount_inputs (s : State) : s.advanceCount.inputs = s.inputs := by
  unfold State.advanceCount
  split <;> rfl

/-! The acts of the environment (60:R420, 20:R153). -/

/-- Each bit of the interrupt register is the data bit where its enable bit is 1, and the old one elsewhere (60:R420). -/
theorem interruptRegisterWrite_getLsbD (data : Word32) (reg : BitVec 5) {n : Nat} (h : n < 5) :
    (interruptRegisterWrite data reg).getLsbD n = if data.getLsbD (16 + n) then data.getLsbD n else reg.getLsbD n := by
  rw [interruptRegisterWrite]
  simp only [BitVec.getLsbD_or, BitVec.getLsbD_and, BitVec.getLsbD_not, BitVec.getLsbD_extractLsb', h, decide_true,
    Bool.true_and, Nat.zero_add]
  cases data.getLsbD (16 + n) <;> simp

theorem State.externalWrite_stopped {s : State} (h : s.powerMode = .suspend ∨ s.powerMode = .hibernate) (data : Word32) :
    s.externalWrite data = s := if_pos h

theorem State.externalWrite_eq {s : State} (h : s.powerMode = .fullspeed ∨ s.powerMode = .standby) (data : Word32) :
    s.externalWrite data = { s with
      intReg := interruptRegisterWrite data s.intReg
      nmiPending := s.nmiPending || (data.getLsbD 22 && data.getLsbD 6) } :=
  if_neg (by rcases h with mode | mode <;> simp [mode])

theorem State.externalWrite_frame (data : Word32) (s : State) :
    s.externalWrite data = { s with
      intReg := (s.externalWrite data).intReg, nmiPending := (s.externalWrite data).nmiPending } := by
  unfold State.externalWrite
  split <;> rfl

/-! Cause.IP (60:R420): the timer above the five pins above the two software bits. -/

section

variable (s : State) {n : Nat}

theorem State.causeIp_software (h : n < 2) : s.causeIp.getLsbD n = s.cp0.cause.ipSw.getLsbD n := by
  rw [State.causeIp, BitVec.getLsbD_append, if_pos h]

theorem State.causeIp_pins (h : n < 5) : s.causeIp.getLsbD (n + 2) = (s.intPins.getLsbD n || s.intReg.getLsbD n) := by
  rw [State.causeIp, BitVec.getLsbD_append, if_neg (by omega), Nat.add_sub_cancel, BitVec.getLsbD_append, if_pos h,
    BitVec.getLsbD_or]

theorem State.causeIp_timer : s.causeIp.getLsbD 7 = s.timerPending := by
  rw [State.causeIp, BitVec.getLsbD_append, if_neg (by decide), BitVec.getLsbD_append, if_neg (by decide)]
  simp

end

/-- Settles O14. -/
theorem betweenSteps : Obligations.BetweenSteps := by
  intro s
  refine ⟨?gap, State.advanceCount_of_hibernate, fun counts => ?count, fun data t ht => ?external, fun b p => ?pins,
    fun a b => ?agent, fun w a present => ?lists, fun n => s.causeIp_software, fun n => s.causeIp_pins, s.causeIp_timer⟩
  case gap => rw [State.betweenSteps, State.advanceCount_inputs]
  case count =>
    rw [State.advanceCount_eq counts]
    refine ⟨rfl, ?_⟩
    rw [← countReaches_iff, ← Bool.or_eq_true]
  case external =>
    subst ht
    refine ⟨s.externalWrite_frame data, fun runs => ?_, fun stopped => State.externalWrite_stopped stopped data⟩
    rw [State.applyEvent, State.externalWrite_eq runs]
    refine ⟨fun n hn => interruptRegisterWrite_getLsbD data s.intReg hn, ?_⟩
    rw [Bool.or_eq_true, Bool.and_eq_true]
  case pins =>
    exact ⟨rfl, rfl, rfl, fun hibernates => ⟨if_pos hibernates, if_pos hibernates⟩,
      fun clocked => ⟨if_neg clocked, if_neg clocked⟩⟩
  case agent =>
    exact ⟨s.mem.write a b, rfl, fun wf => ⟨Memory.wf_write a b wf, Memory.read_write_same a b wf,
      fun _ other => Memory.read_write_other b wf other⟩⟩
  case lists =>
    exact ⟨_, _, _, _, rfl, rfl, rfl, rfl, fun _ => mem_setPresent, fun _ => mem_setPresent, fun _ => mem_setPresent,
      fun _ => mem_setPresent⟩

end Sys2Proof.Machine
end

section
/-! PROOFS. What taking an exception writes, where it goes, and what it records (60:R400, R404 to R407, R415): O16, O17 and O18. -/

namespace Sys2Proof.Machine

/-! The common entry (60:R405). -/

/-- The exceptions that record an address (60:R407, R415). -/
def Exc.recordsAddress : Exc → Bool
  | .tlbMod _ | .tlbRefill _ _ | .tlbInvalid _ _ | .addressError _ _ => true
  | _ => false

theorem Exc.recordsAddress_eq_false {e : Exc}
    (other : ∀ va k, e ≠ .addressError va k ∧ e ≠ .tlbRefill va k ∧ e ≠ .tlbInvalid va k ∧ e ≠ .tlbMod va) :
    Exc.recordsAddress e = false := by
  cases e with
  | addressError va k | tlbRefill va k | tlbInvalid va k => simpa using other va k
  | tlbMod va => simpa using other va .load
  | _ => rfl

section

variable (e : Exc) (s : State)

/-- What an exception records are the four address registers of CP0. -/
theorem State.recordException_frame :
    s.recordException e = { s with
      cp0 := { s.cp0 with
        badVAddr := (s.recordException e).cp0.badVAddr, entryHi := (s.recordException e).cp0.entryHi
        context := (s.recordException e).cp0.context, xcontext := (s.recordException e).cp0.xcontext } } := by
  cases e <;> rfl

theorem State.recordException_of_no_address {e : Exc} (h : Exc.recordsAddress e = false) : s.recordException e = s := by
  cases e with
  | tlbMod | tlbRefill | tlbInvalid | addressError => exact Bool.noConfusion h
  | _ => rfl

/-- The state that the common entry leaves, in one record: CP0 by the registers it writes (60:R405). -/
theorem State.enterCommon_eq :
    s.enterCommon e = { s with
      pc := s.vectorBase + s.vectorOffset e, npc := s.vectorBase + s.vectorOffset e + 4, ds := false
      cp0 := { s.cp0 with
        epc := if s.cp0.status.exl then s.cp0.epc else s.restartAddress
        cause := { s.cp0.cause with
          bd := if s.cp0.status.exl then s.cp0.cause.bd else s.ds
          excCode := e.code
          ce := s.causeCe e }
        status := { s.cp0.status with exl := true }
        random := if s.freeBit .randomOnException then nextRandom s.cp0.random s.cp0.wired else s.cp0.random
        badVAddr := (s.recordException e).cp0.badVAddr, entryHi := (s.recordException e).cp0.entryHi
        context := (s.recordException e).cp0.context, xcontext := (s.recordException e).cp0.xcontext }
      hiLo := HiLoWindow.empty, hiLoPrev := HiLoWindow.empty, trapped := true
      hiLoSaved := if s.cp0.status.exl then s.hiLoSaved else s.saveWindow } := by
  rw [State.enterCommon, State.recordException_frame]
  rfl

end

/-- At exception level no interrupt is enabled (60:R428). -/
theorem State.interruptPending_of_exl {s : State} (h : s.cp0.status.exl = true) : s.interruptPending = false := by
  simp [State.interruptPending, h]

/-- Settles O16: the record that the common entry leaves says all but the frame of memory and the open values. -/
theorem exceptionEntry : Obligations.ExceptionEntry := by
  intro s e common t
  have ht : t = s.enterCommon e := s.takeException_eq_enterCommon common
  rw [State.enterCommon_eq] at ht
  have random : t.cp0.random = s.cp0.random ∨ t.cp0.random = nextRandom s.cp0.random s.cp0.wired := by
    rw [ht]
    cases s.freeBit .randomOnException
    · exact .inl rfl
    · exact .inr rfl
  have ce : ∀ n, e = .cpU n → t.cp0.cause.ce = n := by rintro n rfl; rfl
  have noInterrupt : t.interruptPending = false := State.interruptPending_of_exl (by rw [ht])
  have addresses : (∀ va k, e ≠ .addressError va k ∧ e ≠ .tlbRefill va k ∧ e ≠ .tlbInvalid va k ∧ e ≠ .tlbMod va) →
      t.cp0.badVAddr = s.cp0.badVAddr ∧ t.cp0.entryHi = s.cp0.entryHi ∧ t.cp0.context = s.cp0.context
        ∧ t.cp0.xcontext = s.cp0.xcontext := by
    intro other
    rw [ht, State.recordException_of_no_address s (Exc.recordsAddress_eq_false other)]
    exact ⟨rfl, rfl, rfl, rfl⟩
  refine ⟨?epc, ?bd, ?code, ce, ?ipSw, ?status, s.takeException_mode e, noInterrupt, ?pc, s.takeException_npc e, ?ds, random,
    ?cp0, addresses, ?frame, ?gpr, (s.takeException_keepsHiLo e).1, (s.takeException_keepsHiLo e).2, s.takeException_tlb e,
    ?powerMode, ?timer, s.takeException_keepsMemory e⟩
  case epc => rw [ht]; rfl
  all_goals rw [ht]

/-! The vectors (60:R404, R406). -/

theorem State.takeException_refill_pc (s : State) (va : DWord) (k : AccessKind) :
    (s.takeException (.tlbRefill va k)).pc
      = s.vectorBase + if s.cp0.status.exl then 0x180 else if s.xtlb va then 0x80 else 0 := rfl

section

variable {s : State} {va : DWord}

/-- The user's space (60:R406). -/
theorem State.xtlb_user (h : va.extractLsb' 62 2 = 0) : s.xtlb va = s.cp0.status.ux := if_pos h

/-- The supervisor's spaces lie above the user's (20:R105, 60:R406). -/
theorem State.xtlb_supervisor
    (h : va.extractLsb' 62 2 = 1 ∨ (0xFFFFFFFFC0000000 ≤ va.toNat ∧ va.toNat ≤ 0xFFFFFFFFDFFFFFFF)) :
    s.xtlb va = s.cp0.status.sx := by
  have notUser : va.extractLsb' 62 2 ≠ 0 := by
    rcases h with space | range
    · rw [space]; decide
    · intro zero
      have top : va.toNat / 2 ^ 62 % 2 ^ 2 = 0 := by
        rw [← Nat.shiftRight_eq_div_pow, ← BitVec.extractLsb'_toNat, zero]; rfl
      omega
  exact (if_neg notUser).trans (if_pos (by simpa [BitVec.le_def] using h))

theorem State.xtlb_kernel (notUser : va.extractLsb' 62 2 ≠ 0)
    (h : ¬(va.extractLsb' 62 2 = 1 ∨ (0xFFFFFFFFC0000000 ≤ va.toNat ∧ va.toNat ≤ 0xFFFFFFFFDFFFFFFF))) :
    s.xtlb va = s.cp0.status.kx :=
  (if_neg notUser).trans (if_neg (by simpa [BitVec.le_def] using h))

end

/-- The codes that differ between stores and other accesses (60:R400). -/
theorem Exc.code_by_kind (va : DWord) (k : AccessKind) :
    (Exc.tlbRefill va k).code = (if k = .store then 3 else 2) ∧ (Exc.tlbInvalid va k).code = (if k = .store then 3 else 2)
      ∧ (Exc.addressError va k).code = (if k = .store then 5 else 4) := by
  cases k <;> exact ⟨rfl, rfl, rfl⟩

/-- Settles O17. -/
theorem codesAndVectors : Obligations.CodesAndVectors := by
  intro s va k base supervisorSpace
  obtain ⟨refill, invalid, address⟩ := Exc.code_by_kind va k
  have vector : (s.takeException (.tlbRefill va k)).pc
      = base + if s.cp0.status.exl then 0x180 else if s.xtlb va then 0x80 else 0 := s.takeException_refill_pc va k
  refine ⟨fun e noRefill common => s.takeException_pc noRefill common, fun exl => ?_, fun exl user => ?_,
    fun exl supervisor => ?_, fun exl notUser notSupervisor => ?_, rfl, rfl, refill, invalid, address, rfl, rfl, rfl, rfl, rfl,
    rfl, rfl, rfl, rfl⟩
  · rw [vector, exl]; rfl
  · rw [vector, exl, State.xtlb_user user]; rfl
  · rw [vector, exl, State.xtlb_supervisor supervisor]; rfl
  · rw [vector, exl, State.xtlb_kernel notUser notSupervisor]; rfl

/-- Settles O18: what is recorded does not depend on which of the three TLB exceptions is taken. -/
theorem addressRecords : Obligations.AddressRecords := by
  intro s va k
  refine ⟨fun e tlb => ?_, rfl, rfl, rfl, rfl⟩
  have common : e ≠ .cacheError := by rcases tlb with rfl | rfl | rfl <;> nofun
  have records : s.recordException e = s.mapCp0 (Cp0.recordTlb va) := by rcases tlb with rfl | rfl | rfl <;> rfl
  rw [s.takeException_eq_enterCommon common, State.enterCommon_eq, records]
  exact ⟨rfl, rfl, rfl, rfl⟩

end Sys2Proof.Machine
end

section
/-! PROOFS. The accesses that end early (60:R414, R419, R445; 20:R141, R143, R154): O19 and O50. First the forms by the access they
make, then Watch, then what no cache error comes from, then the reads answered with an error, then the obligations. -/

namespace Sys2Proof.Machine

/-! The forms by the access they make (40:R200). -/

/-- An outcome is that of an instruction which reads the bytes of a part and then completes. -/
def ReadsPart (va : DWord) (part : Part) (s : State) (o : Host.Outcome State Fault Refusal) : Prop :=
  ∃ k : DWord → State → State, o = ((s.loadPart va part).andThen fun v t => .ok () (k v t)).finish

/-- An outcome is that of an instruction which writes the bytes of some part and then completes. -/
def WritesPart (va : DWord) (s : State) (o : Host.Outcome State Fault Refusal) : Prop :=
  ∃ (part : Part) (v : DWord), o = ((s.storePart va part v).andThen fun _ t => .ok () t.advance).finish

theorem ReadsPart.requires64 {va : DWord} {part : Part} {s : State} {o : Host.Outcome State Fault Refusal}
    (h : ReadsPart va part s o) (h64 : s.is64bitOps = true) : ReadsPart va part s (s.requires64 o) := by
  rwa [State.requires64, if_pos h64]

theorem WritesPart.requires64 {va : DWord} {s : State} {o : Host.Outcome State Fault Refusal} (h : WritesPart va s o)
    (h64 : s.is64bitOps = true) : WritesPart va s (s.requires64 o) := by
  rwa [State.requires64, if_pos h64]

section

variable {s : State} {base rt : Reg} {offset : BitVec 16} {i : Instr}

theorem State.execLoad_readsPart {n : Nat} (aligned : (s.effectiveAddress base offset).toNat % n = 0) (f : DWord → DWord) :
    ReadsPart (s.effectiveAddress base offset) { start := s.effectiveAddress base offset, count := n } s
      (s.execLoad base rt offset n f) := by
  unfold State.execLoad State.load
  rw [if_neg (not_not.2 aligned)]
  exact ⟨_, rfl⟩

theorem State.execStore_writesPart {n : Nat} (aligned : (s.effectiveAddress base offset).toNat % n = 0) :
    WritesPart (s.effectiveAddress base offset) s (s.execStore base rt offset n) := by
  unfold State.execStore State.store
  rw [if_neg (not_not.2 aligned)]
  exact ⟨_, _, rfl⟩

/-- Every load that gets as far as translating reads the bytes that `State.loadParts` names. -/
theorem exec_readsPart {p : Part} (h : (i, p) ∈ s.loadParts base rt offset) :
    ReadsPart (s.effectiveAddress base offset) p s (exec i s) := by
  simp only [State.loadParts, List.mem_append, List.mem_ite_nil_right, List.map_cons, List.map_nil, List.mem_cons,
    List.not_mem_nil, or_false, Prod.mk.injEq, or_assoc] at h
  rcases h with ⟨rfl, rfl⟩ | ⟨rfl, rfl⟩ | ⟨rfl, rfl⟩ | ⟨rfl, rfl⟩ | ⟨h2, ⟨rfl, rfl⟩ | ⟨rfl, rfl⟩⟩ | ⟨h4, rfl, rfl⟩
    | ⟨h64, ⟨rfl, rfl⟩ | ⟨rfl, rfl⟩ | ⟨h4, rfl, rfl⟩ | ⟨h8, rfl, rfl⟩⟩
  · exact State.execLoad_readsPart (Nat.mod_one _) _
  · exact State.execLoad_readsPart (Nat.mod_one _) _
  · exact ⟨_, rfl⟩
  · exact ⟨_, rfl⟩
  · exact State.execLoad_readsPart h2 _
  · exact State.execLoad_readsPart h2 _
  · exact State.execLoad_readsPart h4 _
  · exact ⟨_, if_pos h64⟩
  · exact ⟨_, if_pos h64⟩
  · exact (State.execLoad_readsPart h4 _).requires64 h64
  · exact (State.execLoad_readsPart h8 _).requires64 h64

theorem exec_readsSomePart (h : i ∈ s.loadForms base rt offset) :
    ∃ p, ReadsPart (s.effectiveAddress base offset) p s (exec i s) := by
  obtain ⟨⟨_, p⟩, hp, rfl⟩ := List.mem_map.1 h
  exact ⟨p, exec_readsPart hp⟩

theorem exec_writesPart (h : i ∈ s.storeForms base rt offset) :
    WritesPart (s.effectiveAddress base offset) s (exec i s) := by
  rcases State.mem_storeForms.1 h with (rfl | rfl | rfl) | ⟨h2, rfl⟩ | ⟨h4, rfl⟩ | ⟨h64, (rfl | rfl) | ⟨h8, rfl⟩⟩
  · exact State.execStore_writesPart (Nat.mod_one _)
  · exact ⟨_, _, rfl⟩
  · exact ⟨_, _, rfl⟩
  · exact State.execStore_writesPart h2
  · exact State.execStore_writesPart h4
  · exact ⟨_, _, if_pos h64⟩
  · exact ⟨_, _, if_pos h64⟩
  · exact (State.execStore_writesPart h8).requires64 h64

end

section

variable {va : DWord} {part : Part} {s u : State} {o : Host.Outcome State Fault Refusal} {e : Exc}

theorem ReadsPart.raise (h : ReadsPart va part s o) (raised : s.loadPart va part = .raise e u) :
    o = .next (u.takeException e) := by
  obtain ⟨k, rfl⟩ := h
  rw [raised]; rfl

theorem WritesPart.raise (h : WritesPart va s o) (raised : ∀ part v, s.storePart va part v = .raise e u) :
    o = .next (u.takeException e) := by
  obtain ⟨part, v, rfl⟩ := h
  rw [raised]; rfl

end

/-! The accesses that raise no cache error: all where nothing is in error, and all with DE = 1 (60:R414, 10:R44). -/

/-- A part of an instruction does not end in a cache error. -/
def Access.NoCacheError {α : Type} (m : Access α) : Prop :=
  match m with
  | .raise e _ => e ≠ .cacheError
  | _ => True

section

variable {α β : Type}

theorem Access.NoCacheError.ok (a : α) (t : State) : (Access.ok a t).NoCacheError := trivial

theorem Access.NoCacheError.ne {m : Access α} (h : m.NoCacheError) (u : State) : m ≠ .raise .cacheError u := by
  rintro rfl
  exact h rfl

theorem Access.NoCacheError.ite {c : Prop} [Decidable c] {m n : Access α} (h : c → m.NoCacheError) (g : n.NoCacheError) :
    (if c then m else n).NoCacheError := by
  split
  · exact h ‹_›
  · exact g

theorem Access.NoCacheError.andThen {m : Access α} {k : α → State → Access β} (h : m.NoCacheError)
    (g : ∀ a t, m = .ok a t → (k a t).NoCacheError) : (m.andThen k).NoCacheError := by
  cases m with
  | ok a t => exact g a t rfl
  | raise e t => exact h
  | _ => trivial

/-- A check of parity that is switched off lets the access go on (10:R44). -/
theorem Access.NoCacheError.parityCheck {s : State} (off : s.cp0.status.de = true) {c : Bool} {m n : Access α}
    (h : n.NoCacheError) : (if s.parityOn && c then m else n).NoCacheError :=
  .ite (fun on => absurd on (by simp [State.parityOn, off])) h

end

theorem State.Clean.physRead_noCacheError {s : State} (h : s.Clean) (tr : Translation) (part : Part) :
    (s.physRead tr.pa tr.cached (s.laneAddresses tr.pa part)).NoCacheError := by
  obtain ⟨t, read, -⟩ := State.physRead_readable (pa := tr.pa) (addrs := s.laneAddresses tr.pa part)
    (h.readable tr.cached) fun a => State.lineOf_laneAddresses
  rw [read]
  exact .ok _ _

theorem State.Clean.physWrite_noCacheError {s : State} (h : s.Clean) (pa : PAddr) (cached : Bool) (ws : List (PAddr × Byte)) :
    (s.physWrite pa cached ws).NoCacheError := by
  obtain ⟨t, opened, -⟩ := State.openLine_clean h pa
  refine .ite (fun _ => ?_) (.ok _ _)
  rw [opened]
  exact .ok _ _

/-- No translation raises a cache error (20:R115). -/
theorem State.translate_noCacheError (va : DWord) (k : AccessKind) (s : State) : (s.translate va k).NoCacheError := by
  unfold State.translate State.translateMapped TlbEntry.translate
  dsimp only
  repeat' split
  all_goals simp [Access.NoCacheError]

theorem State.openInstructionLine_tame (i : BitVec 7) (pa : PAddr) (s : State) : (s.openInstructionLine i pa).Tame s :=
  .ite (.raise _ (SameCore.refl s)) (.ite (.ok _ (SameCore.refl s)) (State.fillInstruction_tame ..))

section

variable {s : State}

theorem State.watched_noCacheError {α : Type} {pa : PAddr} {kind : AccessKind} {r : Access α} (h : r.NoCacheError) :
    (s.watched pa kind r).NoCacheError := by
  unfold State.watched
  split
  · split
    · exact h
    · exact .ite (fun _ => trivial) (nofun : Exc.watch ≠ .cacheError)
  · exact h

variable (off : s.cp0.status.de = true)
include off

theorem State.busRead_noCacheError {e : Exc} (bus : e ≠ .cacheError) (words : WordAddr → Bool) :
    (s.busRead words e).NoCacheError :=
  .ite (fun _ => trivial) <| .ite (fun on => absurd on (by simp [State.busParityOn, State.parityOn, off])) <|
    .ite (fun _ => bus) (.ok _ s)

theorem State.evict_noCacheError (i : BitVec 6) : (s.evict i).NoCacheError :=
  .ite (fun _ => .parityCheck off (.parityCheck off (.ok _ _))) (.parityCheck off (.ok _ _))

theorem State.fillData_noCacheError (pa : PAddr) : (s.fillData pa).NoCacheError :=
  .andThen (State.busRead_noCacheError (s := s.setDLine _ _) (e := .dbe) off nofun _) fun _ _ _ => .ok _ _

theorem State.openLine_noCacheError (pa : PAddr) : (s.openLine pa).NoCacheError := by
  refine .ite (fun _ => .parityCheck off (.ok _ _)) (.andThen (State.evict_noCacheError off _) fun _ t ht => ?_)
  have core : SameCore s t := by simpa [Access.Tame, ht] using s.evict_tame (dIndex pa)
  exact State.fillData_noCacheError (core.cp0 ▸ off) pa

theorem State.physRead_noCacheError (pa : PAddr) (cached : Bool) (addrs : List PAddr) :
    (s.physRead pa cached addrs).NoCacheError := by
  refine .ite (fun _ => .andThen (State.openLine_noCacheError off pa) fun _ t ht => ?_)
    (.andThen (State.busRead_noCacheError (e := .dbe) off nofun _) fun _ _ _ => .ok _ _)
  have core : SameCore s t := by simpa [Access.Tame, ht] using s.openLine_tame pa
  exact .parityCheck (core.cp0 ▸ off) (.ok _ _)

theorem State.physWrite_noCacheError (pa : PAddr) (cached : Bool) (ws : List (PAddr × Byte)) :
    (s.physWrite pa cached ws).NoCacheError :=
  .ite (fun _ => .andThen (State.openLine_noCacheError off pa) fun _ _ _ => .ok _ _) (.ok _ _)

theorem State.loadPart_noCacheError (va : DWord) (part : Part) : (s.loadPart va part).NoCacheError := by
  refine .andThen (s.translate_noCacheError va .load) fun tr t ht => ?_
  obtain rfl := State.translate_state ht
  exact .andThen (State.watched_noCacheError (State.physRead_noCacheError off ..)) fun _ _ _ => .ok _ _

theorem State.storePart_noCacheError (va : DWord) (part : Part) (v : DWord) : (s.storePart va part v).NoCacheError := by
  refine .andThen (s.translate_noCacheError va .store) fun tr t ht => ?_
  obtain rfl := State.translate_state ht
  exact State.watched_noCacheError (State.physWrite_noCacheError off ..)

theorem State.openInstructionLine_noCacheError (i : BitVec 7) (pa : PAddr) : (s.openInstructionLine i pa).NoCacheError :=
  .parityCheck off <| .ite (fun _ => .ok _ _) <|
    .andThen (State.busRead_noCacheError (s := s.setILine _ _) (e := .ibe) off nofun _) fun _ _ _ => .ok _ _

theorem State.fetch_noCacheError (va : DWord) : (s.fetch va).NoCacheError := by
  have misaligned : Exc.addressError va .fetch ≠ .cacheError := nofun
  refine .ite (fun _ => misaligned) (.andThen (s.translate_noCacheError va .fetch) fun tr t ht => ?_)
  obtain rfl := State.translate_state ht
  refine .ite (fun _ => .andThen (State.openInstructionLine_noCacheError off _ _) fun _ u hu => ?_)
    (.andThen (State.busRead_noCacheError (e := .ibe) off nofun _) fun _ _ _ => .ok _ _)
  have core : SameCore t u := by simpa [Access.Tame, hu] using t.openInstructionLine_tame (iIndex va) tr.pa
  exact .parityCheck (core.cp0 ▸ off) (.ok _ _)

end

/-! Watch (60:R445). -/

/-- How an access ends that matches WatchLo: below exception level in Watch, else refused (U18, log 31). -/
def State.endsWatched {α : Type} (s : State) : Access α :=
  if s.cp0.status.exl || s.cp0.status.erl then .refuse .watchAtExceptionLevel else .raise .watch s

/-- The same, of the instruction. -/
def State.watchOutcome (s : State) : Host.Outcome State Fault Refusal :=
  if s.cp0.status.exl || s.cp0.status.erl then .refused .watchAtExceptionLevel else .next (s.takeException .watch)

theorem State.endsWatched_finish {α : Type} (s : State) (k : α → State → Access Unit) :
    (s.endsWatched.andThen k).finish = s.watchOutcome := by
  unfold State.endsWatched State.watchOutcome
  split <;> rfl

/-- The match is on the doubleword and the kind of the access, never a fetch. -/
theorem State.watchMatch_iff {s : State} {pa : PAddr} {k : AccessKind} :
    s.watchMatch pa k = true ↔ pa.toNat / 8 = s.cp0.watchLo.paddr0.toNat
      ∧ ((k = .load ∧ s.cp0.watchLo.r = true) ∨ (k = .store ∧ s.cp0.watchLo.w = true)) := by
  have doubleword : (pa.extractLsb' 3 29).toNat = pa.toNat / 8 := by
    rw [BitVec.extractLsb'_toNat, Nat.shiftRight_eq_div_pow]
    omega
  simp only [State.watchMatch, Bool.and_eq_true, Bool.or_eq_true, beq_iff_eq, ← BitVec.toNat_inj, doubleword]

theorem State.watched_of_no_match {α : Type} {s : State} {pa : PAddr} {kind : AccessKind} (h : s.watchMatch pa kind = false)
    (r : Access α) : s.watched pa kind r = r :=
  if_neg (by simp [h])

/-- A watched access is not made, unless it raises a cache error, which goes first (60:R403). -/
theorem State.watched_of_match {α : Type} {s : State} {pa : PAddr} {kind : AccessKind} {r : Access α}
    (hit : s.watchMatch pa kind = true) (noCacheError : r.NoCacheError) :
    s.watched pa kind r = s.endsWatched := by
  unfold State.watched State.endsWatched
  rw [if_pos hit]
  split
  · exact absurd rfl noCacheError
  · rfl

section

variable {s : State} (clean : s.Clean) {va : DWord} {tr : Translation} {o : Host.Outcome State Fault Refusal}
include clean

theorem ReadsPart.watched {part : Part} (h : ReadsPart va part s o) (translated : s.translate va .load = .ok tr s)
    (hit : s.watchMatch tr.pa .load = true) : o = s.watchOutcome := by
  obtain ⟨k, rfl⟩ := h
  rw [State.loadPart, translated, Access.andThen, State.watched_of_match hit (clean.physRead_noCacheError tr part),
    Access.andThen_assoc, State.endsWatched_finish]

theorem WritesPart.watched (h : WritesPart va s o) (translated : s.translate va .store = .ok tr s)
    (hit : s.watchMatch tr.pa .store = true) : o = s.watchOutcome := by
  obtain ⟨part, v, rfl⟩ := h
  rw [State.storePart, translated, Access.andThen, State.watched_of_match hit (clean.physWrite_noCacheError ..),
    State.endsWatched_finish]

end

/-! The reads that the external agent answers with an error (20:R154, 60:R419). -/

section

variable {s : State}

theorem State.DataLineRight.evict {i : BitVec 6} (h : s.DataLineRight i) : s.evict i = .ok () (s.writeBackIfDirty i) := by
  have tag : (s.parityOn && (s.dLine i).tagError) = false := by
    cases on : s.parityOn
    · rfl
    · exact (h on).1
  unfold State.evict State.writeBackIfDirty
  dsimp only
  rw [tag]
  by_cases dirty : (s.dLine i).dirty = true
  · have data : (s.parityOn && (s.dLine i).dataError) = false := by
      cases on : s.parityOn
      · rfl
      · exact (h on).2 dirty
    rw [if_pos dirty, if_pos dirty, data]
    rfl
  · rw [if_neg dirty, if_neg dirty]
    rfl

/-- A data cache miss whose fill is answered with an error: room is made first, and the line is left invalid (20:R141, log 48). -/
theorem State.openLine_inError {pa : PAddr} (miss : (s.dLine (dIndex pa)).hit pa = false) (right : s.DataLineRight (dIndex pa))
    (error : s.AnswersInError (lineHasWord (lineOf pa))) :
    s.openLine pa = .raise .dbe ((s.writeBackIfDirty (dIndex pa)).invalidateD (dIndex pa)) := by
  have core : SameCore s ((s.writeBackIfDirty (dIndex pa)).invalidateD (dIndex pa)) :=
    (SameCore.writeBackIfDirty ..).trans (.invalidateD ..)
  have answer := State.busRead_inError .dbe (core.answersInError error)
  unfold State.openLine
  dsimp only
  rw [miss, right.evict]
  show (((s.writeBackIfDirty (dIndex pa)).invalidateD (dIndex pa)).busRead _ _).andThen _ = _
  rw [answer]
  rfl

/-- A fill of the instruction cache that is answered with an error leaves the line invalid (20:R143, log 48). -/
theorem State.fillInstruction_inError (i : BitVec 7) {pa : PAddr} (e : Exc) (error : s.AnswersInError (lineHasWord (lineOf pa))) :
    s.fillInstruction i pa e = .raise e (s.invalidateI i) := by
  have answer := State.busRead_inError e ((SameCore.invalidateI s i).answersInError error)
  show ((s.invalidateI i).busRead _ _).andThen _ = _
  rw [answer]
  rfl

section

variable {va : DWord} {tr : Translation} {o : Host.Outcome State Fault Refusal}

theorem State.Reaches.loadPart_eq (h : s.Reaches va .load tr) (part : Part) :
    s.loadPart va part = (s.physRead tr.pa tr.cached (s.laneAddresses tr.pa part)).andThen fun bytes u =>
      .ok (assemble u.bigEndianCpu bytes) u := by
  rw [State.loadPart, h.translated, Access.andThen, State.watched_of_no_match h.unwatched]

theorem State.Reaches.storePart_eq (h : s.Reaches va .store tr) (part : Part) (v : DWord) :
    s.storePart va part v = s.physWrite tr.pa tr.cached (s.partWrites tr part v) := by
  rw [State.storePart, h.translated, Access.andThen, State.watched_of_no_match h.unwatched, State.partWrites]

/-- An uncached load one of whose words is answered with an error (20:R124). -/
theorem ReadsPart.uncached_inError {part : Part} (h : ReadsPart va part s o) (reaches : s.Reaches va .load tr)
    (uncached : tr.cached = false)
    (error : s.AnswersInError fun w => (s.laneAddresses tr.pa part).any fun a => wordOf a == w) :
    o = .next (s.takeException .dbe) := by
  refine h.raise ?_
  rw [reaches.loadPart_eq, uncached, State.physRead, if_neg (by decide), State.readUncached, State.busRead_inError .dbe error]
  rfl

variable (cached : tr.cached = true) (miss : (s.dLine (dIndex tr.pa)).hit tr.pa = false)
  (right : s.DataLineRight (dIndex tr.pa)) (error : s.AnswersInError (lineHasWord (lineOf tr.pa)))
include cached miss right error

theorem ReadsPart.raisesOnFill {part : Part} (h : ReadsPart va part s o) (reaches : s.Reaches va .load tr) :
    RaisesOnFill o (dIndex tr.pa) s := by
  refine h.raise ?_
  rw [reaches.loadPart_eq, cached, State.physRead, if_pos rfl, State.readCached, State.openLine_inError miss right error]
  rfl

theorem WritesPart.raisesOnFill (h : WritesPart va s o) (reaches : s.Reaches va .store tr) :
    RaisesOnFill o (dIndex tr.pa) s := by
  refine h.raise fun part v => ?_
  rw [reaches.storePart_eq, cached, State.physWrite, if_pos rfl, State.openLine_inError miss right error]
  rfl

end

theorem State.InstructionTagRight.or {i : BitVec 7} (h : s.InstructionTagRight i) :
    s.cp0.status.de = true ∨ (s.iLine i).tagError = false := by
  cases off : s.cp0.status.de
  · exact .inr (h (by simp [State.parityOn, off]))
  · exact .inl rfl

/-- CACHE Fill whose read is answered with an error (45:R378, log 49). -/
theorem exec_cacheFillI_inError {base : Reg} {offset : BitVec 16} {tr : Translation} (usable : s.cp0Usable = true)
    (translated : s.translate (s.effectiveAddress base offset) .load = .ok tr s)
    (right : s.InstructionTagRight (iIndex (s.effectiveAddress base offset)))
    (error : s.AnswersInError (lineHasWord (lineOf tr.pa))) :
    exec (.cacheFillI base offset) s
      = .next ((s.invalidateI (iIndex (s.effectiveAddress base offset))).takeException .dbe) := by
  have fill : fillI (s.effectiveAddress base offset) tr.pa s
      = .raise .dbe (s.invalidateI (iIndex (s.effectiveAddress base offset))) := by
    unfold fillI
    rw [State.onILine_eq right.or, State.fillInstruction_inError _ .dbe error]
    rfl
  refine (State.requiresCp0_eq _ usable).trans ?_
  rw [translated, Access.andThen, fill]
  rfl

/-! Fetches (20:R122). -/

theorem State.fetch_of_translated {va : DWord} {tr : Translation} (aligned : va.toNat % 4 = 0)
    (translated : s.translate va .fetch = .ok tr s) :
    s.fetch va = if tr.cached then s.fetchCached va tr.pa else s.fetchUncached tr.pa := by
  unfold State.fetch
  rw [if_neg (not_not.2 aligned), translated]
  rfl

theorem State.openInstructionLine_eq {i : BitVec 7} (right : s.cp0.status.de = true ∨ (s.iLine i).tagError = false)
    (pa : PAddr) :
    s.openInstructionLine i pa = if (s.iLine i).hit pa then .ok () s else s.fillInstruction i pa .ibe :=
  if_neg (by rcases right with h | h <;> simp [State.parityOn, h])

theorem State.runInstruction_of_raise {e : Exc} {u : State} (h : s.fetch s.pc = .raise e u) :
    s.runInstruction = .next (u.takeException e) := by
  rw [State.runInstruction, h]
  rfl

theorem State.fetchUncached_inError {pa : PAddr} (error : s.AnswersInError fun w => w == wordOf pa) :
    s.fetchUncached pa = .raise .ibe s := by
  rw [State.fetchUncached, State.busRead_inError .ibe error]
  rfl

theorem State.fetchCached_inError {va : DWord} {pa : PAddr} (miss : (s.iLine (iIndex va)).hit pa = false)
    (right : s.InstructionTagRight (iIndex va)) (error : s.AnswersInError (lineHasWord (lineOf pa))) :
    s.fetchCached va pa = .raise .ibe (s.invalidateI (iIndex va)) := by
  unfold State.fetchCached
  dsimp only
  rw [State.openInstructionLine_eq right.or, miss, if_neg (by decide), State.fillInstruction_inError _ .ibe error]
  rfl

end

/-! The obligations. -/

/-- Settles O50. -/
theorem watchException : Obligations.WatchException := by
  intro base rt offset s tr va ends
  refine ⟨fun pa k => State.watchMatch_iff, rfl,
    fun clean => ⟨fun translated hit i hi => ?load, fun translated hit i hi => ?store⟩⟩
  case load =>
    obtain ⟨part, reads⟩ := exec_readsSomePart hi
    exact reads.watched clean translated hit
  case store => exact (exec_writesPart hi).watched clean translated hit

/-- Settles O19. -/
theorem cacheErrorEntry : Obligations.CacheErrorEntry := by
  intro s t
  have hiLo := s.takeException_keepsHiLo .cacheError
  refine ⟨rfl, rfl, rfl, rfl, rfl, rfl, rfl, hiLo.1, hiLo.2, rfl, s.takeException_keepsMemory .cacheError,
    fun off va v part u => ?parityOff, fun base rt offset tr => ?data, fun tr aligned translated => ?fetch, ?entry⟩
  case parityOff =>
    exact ⟨(State.loadPart_noCacheError off va part).ne u, (State.storePart_noCacheError off va part v).ne u,
      (State.fetch_noCacheError off va).ne u⟩
  case data =>
    refine ⟨fun reaches => ⟨fun i p hp uncached error => ?_, fun i hi misses => ?_⟩, fun reaches i hi misses => ?_,
      exec_cacheFillI_inError⟩
    · exact (exec_readsPart hp).uncached_inError reaches uncached error
    · obtain ⟨cached, miss, right, error⟩ := misses
      obtain ⟨part, reads⟩ := exec_readsSomePart hi
      exact reads.raisesOnFill cached miss right error reaches
    · obtain ⟨cached, miss, right, error⟩ := misses
      exact (exec_writesPart hi).raisesOnFill cached miss right error reaches
  case fetch =>
    have fetched := State.fetch_of_translated aligned translated
    refine ⟨fun uncached error => ?_, fun cached miss right error => ?_⟩
    · rw [uncached, if_neg (by decide), State.fetchUncached_inError error] at fetched
      exact State.runInstruction_of_raise fetched
    · rw [cached, if_pos rfl, State.fetchCached_inError miss right error] at fetched
      exact State.runInstruction_of_raise fetched
  case entry =>
    rintro e (rfl | rfl)
    · exact ⟨rfl, s.takeException_keepsRegs _, s.takeException_keepsHiLo _, s.takeException_keepsMemory _, rfl⟩
    · exact ⟨rfl, s.takeException_keepsRegs _, s.takeException_keepsHiLo _, s.takeException_keepsMemory _, rfl⟩

end Sys2Proof.Machine
end

section
/-! PROOFS. The step of a machine that runs (60:R401, 20:R122, R143): O10. -/

namespace Sys2Proof.Machine

section

variable {s : State} {i : Instr}

/-- The step runs the instruction that the fetched word decodes to. -/
theorem State.Runs.step_of_fetch (runs : s.Runs) (none : s.interruptPending = false) {w : Word32} {t : State}
    (fetched : s.fetch s.pc = .ok w t) (decoded : decode w = .ok i) :
    step s = State.thenGap (s.settleHazard (exec i t)) := by
  rw [runs.step_eq, State.ordinaryStep, none, if_neg (by decide), State.runInstruction, fetched]
  dsimp only
  rw [State.execWord, decoded]

theorem State.settleHazard_of_not_spoiled (h : s.hiLo.spoiled = []) (o : Host.Outcome State Fault Refusal) :
    s.settleHazard o = o := by
  cases o with
  | next t =>
    rw [State.settleHazard, h]
    exact ite_self _
  | fault f => rfl
  | refused r => rfl

section

variable (noBusError : s.busErrors = []) (noBadParity : s.badParity = []) (answered : s.noResponse = [])
include noBusError noBadParity answered

/-- An uncached fetch of a word that the external agent answers (20:R124). -/
theorem State.fetchUncached_eq (pa : PAddr) :
    s.fetchUncached pa = .ok (wordOfBytes s.cp0.config.be (s.mem.read pa) (s.mem.read (pa + 1)) (s.mem.read (pa + 2))
      (s.mem.read (pa + 3))) s := by
  have readable : s.Readable false := ⟨noBusError, noBadParity, answered, nofun⟩
  rw [State.fetchUncached, State.busRead_readable readable]
  rfl

/-- A fill of the instruction cache that the external agent answers (20:R143). -/
theorem State.fillInstruction_eq (k : BitVec 7) (pa : PAddr) (e : Exc) :
    s.fillInstruction k pa e = .ok () (s.setILine k (ICacheLine.filled pa (s.mem.readLine (lineOf pa)) 0)) := by
  have readable : (s.invalidateI k).Readable false := ⟨noBusError, noBadParity, answered, nofun⟩
  have right : (s.invalidateI k).wrongParity (lineOf pa) = 0 := State.wrongParity_of_nil noBadParity _
  show ((s.invalidateI k).busRead _ _).andThen _ = _
  rw [State.busRead_readable readable, Access.andThen, right, State.invalidateI, State.setILine_setILine]
  rfl

end

/-- A cached fetch whose line has been made present, the word's parity being right where it is checked (20:R143, R156). -/
theorem State.fetchCached_of_opened {va : DWord} {pa : PAddr} {t : State}
    (opened : s.openInstructionLine (iIndex va) pa = .ok () t)
    (right : t.cp0.status.de = true ∨ (t.iLine (iIndex va)).wordError (wordOffset pa) = false) :
    s.fetchCached va pa
      = .ok (wordInOrder t.cp0.config.be ((t.iLine (iIndex va)).wordBytes (wordOffset pa))) t := by
  unfold State.fetchCached
  dsimp only
  rw [opened, Access.andThen, if_neg (by rcases right with h | h <;> simp [State.parityOn, h])]

/-- The word of a line that is hit. -/
theorem State.fetchCached_hit {va : DWord} {pa : PAddr} (hit : (s.iLine (iIndex va)).hit pa = true)
    (right : s.cp0.status.de = true
      ∨ ((s.iLine (iIndex va)).tagError = false ∧ (s.iLine (iIndex va)).wordError (wordOffset pa) = false)) :
    s.fetchCached va pa = .ok (wordInOrder s.cp0.config.be ((s.iLine (iIndex va)).wordBytes (wordOffset pa))) s := by
  refine State.fetchCached_of_opened ?_ (right.imp_right And.right)
  rw [State.openInstructionLine_eq (right.imp_right And.left), if_pos hit]

/-- A line filled with right parity has no data parity error. -/
theorem ICacheLine.filled_right (pa : PAddr) (data : Vector Byte 16) (k : BitVec 2) :
    (ICacheLine.filled pa data 0).wordError k = false := by
  rw [ICacheLine.filled_wordError, show oddNibbles 0 = 0 by decide]
  exact BitVec.getLsbD_zero

/-- The word of the line that a miss puts into the cache. -/
theorem State.fetchCached_miss {va : DWord} {pa : PAddr} (miss : (s.iLine (iIndex va)).hit pa = false)
    (right : s.cp0.status.de = true ∨ (s.iLine (iIndex va)).tagError = false)
    (noBusError : s.busErrors = []) (noBadParity : s.badParity = []) (answered : s.noResponse = []) :
    let m := ICacheLine.filled pa (s.mem.readLine (lineOf pa)) 0
    s.fetchCached va pa = .ok (wordInOrder s.cp0.config.be (m.wordBytes (wordOffset pa))) (s.setILine (iIndex va) m) := by
  intro m
  have opened : s.openInstructionLine (iIndex va) pa = .ok () (s.setILine (iIndex va) m) := by
    rw [State.openInstructionLine_eq right, miss, if_neg (by decide),
      State.fillInstruction_eq noBusError noBadParity answered]
  have line : (s.setILine (iIndex va) m).iLine (iIndex va) = m := State.iLine_setILine_same ..
  have fetched := State.fetchCached_of_opened opened (.inr (by rw [line]; exact ICacheLine.filled_right ..))
  rwa [line] at fetched

end

/-- Settles O10. -/
theorem stepRunsDecodedInstruction : Obligations.StepRunsDecodedInstruction := by
  intro s i runs none
  have runsWord {w : Word32} {t : State} (fetched : s.fetch s.pc = .ok w t) (decoded : decode w = .ok i) :=
    runs.step_of_fetch none fetched decoded
  refine ⟨fun w t => runsWord, State.settleHazard_of_not_spoiled,
    fun pa aligned translated noBusError noBadParity answered decoded => ?uncached, fun pa aligned translated => ?cached⟩
  case uncached =>
    have fetched : s.fetch s.pc = s.fetchUncached pa := State.fetch_of_translated aligned translated
    exact runsWord (fetched.trans (State.fetchUncached_eq noBusError noBadParity answered pa)) decoded
  case cached =>
    intro l hit wordIn
    have fetched : s.fetch s.pc = s.fetchCached s.pc pa := State.fetch_of_translated aligned translated
    refine ⟨fun present right decoded => ?_, fun absent right noBusError noBadParity answered => ?_⟩
    · exact runsWord (fetched.trans (State.fetchCached_hit (ICacheLine.hit_iff.2 present) right)) decoded
    · have miss : l.hit pa = false := Bool.eq_false_iff.2 fun h => absent (ICacheLine.hit_iff.1 h)
      exact ⟨ICacheLine.filled pa (s.mem.readLine (lineOf pa)) 0, rfl, rfl, ICacheLine.filled_tagError ..,
        fun k => Vector.getElem_ofFn .., fun decoded =>
          runsWord (fetched.trans (State.fetchCached_miss miss right noBusError noBadParity answered)) decoded⟩

end Sys2Proof.Machine
end

section
/-! PROOFS. The return to a program that an exception has just interrupted (45:R369, 60:R408, R410; 42:R296): O21. First which of
the interrupted programs a return goes on with (log 19), then the state between entry and return, then the obligation. -/

namespace Sys2Proof.Machine

/-! The program a return goes on with, where the last one interrupted stands at the address and has the present registers. -/

section

variable {u : State} {me : SavedWindow} {ws : List SavedWindow}
variable (saved : u.hiLoSaved = me :: ws) (waits : me.resumed = false) (regs : me.gpr = u.gpr)

include saved waits in
theorem State.waiting_of_saved : u.waiting = me :: ws.filter fun w => !w.resumed := by
  rw [State.waiting, saved, List.filter_cons, waits]
  rfl

include saved waits in
theorem State.waiting_head (x : SavedWindow) : u.waiting.head? = some x ↔ x = me := by
  rw [State.waiting_of_saved saved waits, List.head?_cons, Option.some.injEq, eq_comm]

include saved waits regs

/-- It is the last one interrupted, for certain, if every other program that waits there has other registers, or agrees with it. -/
theorem State.returnProgram_of_certain
    (others : ∀ w, w ∈ ws → w.resumed = false → w.addr = me.addr ∨ w.addr = me.addr - 4 →
      w.gpr ≠ u.gpr ∨ (w.addr = me.addr ∧ w.window = me.window)) :
    u.returnProgram me.addr = some me := by
  have last := State.waiting_head saved waits
  have same : me.differing u = 0 := SavedWindow.differing_eq_zero.2 regs
  have sure : u.surelyResumes me.addr me = true := by
    refine State.surelyResumes_iff.2 ⟨SavedWindow.near_iff.2 (.inl rfl), .inl ((last me).2 rfl), fun x hx => ?_⟩
    obtain ⟨hx, waiting⟩ := State.mem_waiting.1 hx
    rcases List.mem_cons.1 (saved ▸ hx) with rfl | hx
    · exact .inl ⟨rfl, rfl⟩
    by_cases near : x.near me.addr = true
    · rcases others x hx waiting (SavedWindow.near_iff.1 near) with differs | agrees
      · have positive : x.differing u ≠ 0 := fun zero => differs (SavedWindow.differing_eq_zero.1 zero)
        exact .inr (.inr ⟨by omega, fun ⟨head, _⟩ => differs ((last x).1 head ▸ regs)⟩)
      · exact .inl agrees
    · exact .inr (.inl ⟨(last me).2 rfl, near⟩)
  rw [State.returnProgram, State.waiting_of_saved saved waits, List.find?_cons, sure]

/-- None is certain if another program waits there with the same registers and another address or window. -/
theorem State.returnProgram_of_rival {w : SavedWindow} (hw : w ∈ ws) (waiting : w.resumed = false)
    (near : w.addr = me.addr ∨ w.addr = me.addr - 4) (alike : w.gpr = u.gpr)
    (differs : ¬(w.addr = me.addr ∧ w.window = me.window)) :
    u.returnProgram me.addr = none := by
  have last := State.waiting_head saved waits
  have mine : me ∈ u.waiting := State.mem_waiting.2 ⟨saved ▸ .head _, waits⟩
  have rival : w ∈ u.waiting := State.mem_waiting.2 ⟨saved ▸ .tail _ hw, waiting⟩
  have mineZero : me.differing u = 0 := SavedWindow.differing_eq_zero.2 regs
  have rivalZero : w.differing u = 0 := SavedWindow.differing_eq_zero.2 alike
  refine List.find?_eq_none.2 fun y _ sure => ?_
  obtain ⟨-, -, all⟩ := State.surelyResumes_iff.1 sure
  -- Neither the last program nor its rival has more differences than `y`, so `y` would have to agree with both.
  have agreesRival : w.addr = y.addr ∧ w.window = y.window := by
    rcases all w rival with agrees | ⟨-, far⟩ | ⟨fewer, -⟩
    · exact agrees
    · exact absurd (SavedWindow.near_iff.2 near) far
    · omega
  have agreesMine : me.addr = y.addr ∧ me.window = y.window := by
    rcases all me mine with agrees | ⟨-, far⟩ | ⟨fewer, -⟩
    · exact agrees
    · exact absurd (SavedWindow.near_iff.2 (.inl rfl)) far
    · omega
  exact differs ⟨agreesRival.1.trans agreesMine.1.symm, agreesRival.2.trans agreesMine.2.symm⟩

end

/-- A register of the programs that a return to an address may go on with is resumed by an open choice (log 19). -/
def State.MayResume (a : DWord) (s : State) (skipped : Bool) (f : HiLoWindow → List Reg) (r : Reg) : Prop :=
  (∃ w, w ∈ s.hiLoSaved ∧ (w.resumed = false ∨ w.addr = a ∨ w.addr = a - 4) ∧ r ∈ f w.window)
    ∧ s.freeBit (.resumes skipped r) = true

/-- The saved window where no program is certain, by its registers. -/
theorem State.mem_returnWindow_open {a : DWord} {s : State} (none : s.returnProgram a = none) (skipped : Bool) (r : Reg) :
    (r ∈ (s.returnWindow skipped a).last ↔ s.MayResume a skipped (·.last) r)
    ∧ (r ∈ (s.returnWindow skipped a).beforeLast ↔ s.MayResume a skipped (·.beforeLast) r)
    ∧ (r ∈ (s.returnWindow skipped a).spoiled ↔ s.MayResume a skipped (·.spoiled) r) := by
  rw [State.returnWindow_open none]
  simp [HiLoWindow.mem_gather, State.MayResume, and_assoc]

/-! Between entry and return (60:R405, 45:R369). -/

/-- The program that an exception interrupts. -/
def State.interrupted (s : State) : SavedWindow :=
  { addr := s.restartAddress, gpr := s.gpr, window := s.restartWindow, resumed := false }

section

variable {s : State} {e : Exc} (common : e ≠ .cacheError) (exl : s.cp0.status.exl = false)
include common exl

/-- What the entry from normal level leaves of what the return looks at. -/
theorem State.takeException_saves :
    (s.takeException e).hiLoSaved = s.interrupted :: s.hiLoSaved ∧ (s.takeException e).gpr = s.gpr
      ∧ (s.takeException e).hiLo = HiLoWindow.empty ∧ (s.takeException e).ds = false := by
  rw [s.takeException_eq_enterCommon common, State.enterCommon_eq, exl]
  exact ⟨rfl, rfl, rfl, rfl⟩

theorem State.returnStatus_takeException (erl : s.cp0.status.erl = false) :
    (s.takeException e).returnStatus = s.cp0.status := by
  have status : (s.takeException e).cp0.status = { s.cp0.status with exl := true } := by
    rw [s.takeException_eq_enterCommon common, State.enterCommon_eq]
  rw [State.returnStatus, status]
  exact (if_neg (by simp [erl])).trans (by rw [← exl])

theorem State.returnTarget_takeException (erl : s.cp0.status.erl = false) :
    (s.takeException e).returnTarget = s.restartAddress := by
  have normal : (s.takeException e).cp0.status.erl = false := by
    rw [s.takeException_eq_enterCommon common, State.enterCommon_eq]
    exact erl
  rw [State.returnTarget, normal, if_neg Bool.false_ne_true, (s.takeException_epc common exl).1]

/-- ERET in the state that the entry leaves: the return to the restart address, with the old Status. -/
theorem exec_eret_takeException (erl : s.cp0.status.erl = false) (defined : s.mode ≠ .undefined) :
    exec .eret (s.takeException e)
      = .next (((s.takeException e).returnTo s.restartAddress).mapStatus fun _ => s.cp0.status) := by
  have usable : (s.takeException e).cp0Usable = true := State.cp0Usable_iff.2 (.inl (s.takeException_mode e))
  obtain ⟨-, -, -, noSlot⟩ := State.takeException_saves common exl
  refine (State.requiresCp0_eq _ usable).trans ((State.outsideSlot_eq noSlot _).trans ?_)
  rw [State.returnFromException_eq, State.returnTarget_takeException common exl erl,
    State.returnStatus_takeException common exl erl]
  exact if_neg defined

end

theorem State.returnTo_keepsMemory (a : DWord) (s : State) : KeepsMemory s (s.returnTo a) :=
  ⟨rfl, rfl, rfl, State.byteAt_congr rfl rfl⟩

theorem KeepsMemory.trans {s t u : State} (h : KeepsMemory s t) (g : KeepsMemory t u) : KeepsMemory s u :=
  ⟨g.mem.trans h.mem, g.icache.trans h.icache, g.dcache.trans h.dcache, fun a => (g.bytes a).trans (h.bytes a)⟩

/-- Settles O21. -/
theorem returnResumes : Obligations.ReturnResumes := by
  intro s e common exl erl defined
  have memory : KeepsMemory s ((s.takeException e).returnTo s.restartAddress) :=
    (s.takeException_keepsMemory e).trans (State.returnTo_keepsMemory ..)
  have hiLo : KeepsHiLo s (s.takeException e) := s.takeException_keepsHiLo e
  have tlb : (s.takeException e).tlb = s.tlb := s.takeException_tlb e
  have regs : KeepsRegs [] s (s.takeException e) := s.takeException_keepsRegs e
  obtain ⟨saved, gpr, empty, -⟩ := State.takeException_saves common exl
  have answer := exec_eret_takeException common exl erl defined
  generalize s.takeException e = u at *
  refine ⟨_, answer, rfl, rfl, rfl, rfl, rfl, hiLo, tlb, ⟨memory.mem, memory.icache, memory.dcache, memory.bytes⟩, ?_⟩
  intro window me resumes
  refine ⟨saved, fun others => ?certain, fun ⟨w, hw, waiting, near, alike, differs⟩ => ?rival⟩
  case certain =>
    have program : u.returnProgram s.restartAddress = some s.interrupted :=
      State.returnProgram_of_certain saved rfl gpr.symm (by rw [gpr]; exact others)
    obtain ⟨resumed, noneSpoiled⟩ := State.windowAt_resumed program rfl
    have zero : s.interrupted.differing u = 0 := SavedWindow.differing_eq_zero.2 gpr.symm
    refine ⟨?window, ?saved, fun r _ => ?regs⟩
    case window =>
      rw [empty] at resumed
      exact resumed.trans (by simp [HiLoWindow.empty, State.interrupted, window, State.restartWindow])
    case saved =>
      refine ((u.windowsAfter_spec _).2 _ program).trans ?_
      rw [if_pos ⟨rfl, by omega⟩, saved, List.erase_cons_head]
    case regs => exact (u.reg_returnTo _ (by rw [noneSpoiled]; exact List.not_mem_nil)).trans (regs r List.not_mem_nil)
  case rival =>
    have program : u.returnProgram s.restartAddress = none :=
      State.returnProgram_of_rival saved rfl gpr.symm hw waiting near (alike.trans gpr.symm) differs
    have may (skipped : Bool) (f : HiLoWindow → List Reg) (r : Reg) :
        u.MayResume s.restartAddress skipped f r ↔ resumes skipped f r := by
      unfold State.MayResume
      rw [saved]
      simp only [List.mem_cons]
      rfl
    refine ⟨((u.windowsAfter_spec _).1 program).trans saved, fun r => ?_⟩
    obtain ⟨last, beforeLast, spoiled⟩ := State.mem_returnWindow_open program false r
    obtain ⟨skippedLast, -, skippedSpoiled⟩ := State.mem_returnWindow_open program true r
    have beforeLastOfBoth : r ∈ (u.windowAt s.restartAddress).beforeLast ↔
        r ∈ (u.returnWindow false s.restartAddress).beforeLast ∨ r ∈ (u.returnWindow true s.restartAddress).last := by
      simp [State.windowAt, HiLoWindow.age, empty, HiLoWindow.empty]
    refine ⟨last.trans (may ..), ?_, spoiled.trans (may ..), fun changed => (may ..).1 (skippedSpoiled.1 ?_)⟩
    · exact beforeLastOfBoth.trans (or_congr (beforeLast.trans (may ..)) (skippedLast.trans (may ..)))
    · by_contra unspoiled
      exact changed ((u.reg_returnTo _ unspoiled).trans (regs r List.not_mem_nil))

end Sys2Proof.Machine
end

section
/-! PROOFS. The hazard between a read and a write of HI or LO (70:R470, 42:R296): O34. First what each instruction that completes
makes of the window, by the endings it shares with others, then the registers that lose their values, then what a return resumes
(log 19), then the obligation. -/

namespace Sys2Proof.Machine

/-! The endings that an instruction may share with others, for any property of the state it completes in. -/

section

variable {s : State} {p : State → Prop} {o k : Host.Outcome State Fault Refusal}

theorem TrapsOr.raise (e : Exc) : TrapsOr s p (s.raise e) := .trapped (.takeException s e)

theorem TrapsOr.outsideSlot (h : TrapsOr s p k) : TrapsOr s p (s.outsideSlot k) := .ite (fun _ => .refused _) h

/-- An access that touches nothing but memory and the caches, followed by a completion. -/
theorem TrapsOr.finish {α : Type} {m : Access α} {f : α → State → State} (tame : m.Tame s)
    (completes : ∀ a t, SameCore s t → p (f a t)) : TrapsOr s p (m.andThen fun a t => .ok () (f a t)).finish := by
  cases m with
  | ok a t => exact .next (completes a t tame)
  | raise e t => exact .trapped ⟨t, tame, .inl ⟨e, rfl⟩⟩
  | shutdown t => exact .trapped ⟨t, tame, .inr (.inl rfl)⟩
  | hang t => exact .trapped ⟨t, tame, .inr (.inr rfl)⟩
  | refuse r => exact .refused r
  | fault f => exact fun _ ht => nomatch ht

/-- A CACHE operation whose own part touches nothing but memory and the caches (45:R370). -/
theorem TrapsOr.cacheOperation_tame {base : Reg} {offset : BitVec 16} {op : DWord → PAddr → State → Access Unit}
    (tame : ∀ va pa t, (op va pa t).Tame t) (completes : ∀ t, SameCore s t → p t.advance) :
    TrapsOr s p (s.cacheOperation base offset op) := by
  have translated := s.translate_tame (s.effectiveAddress base offset) .load
  refine .requiresCp0 ?_
  generalize s.translate (s.effectiveAddress base offset) .load = m at translated
  cases m with
  | ok tr t => exact .finish ((tame ..).trans translated) fun _ u same => completes u same
  | raise e t => exact .trapped ⟨t, translated, .inl ⟨e, rfl⟩⟩
  | shutdown t => exact .trapped ⟨t, translated, .inr (.inl rfl)⟩
  | hang t => exact .trapped ⟨t, translated, .inr (.inr rfl)⟩
  | refuse r => exact .refused r
  | fault f => exact fun _ ht => nomatch ht

/-- An instruction that ends early leaves the mark of it. -/
theorem Trapped.trapped {t : State} (h : Trapped s t) : t.trapped = true := by
  obtain ⟨u, -, ⟨e, rfl⟩ | rfl | rfl⟩ := h
  · exact u.takeException_trapped e
  · rfl
  · rfl

theorem TrapsOr.of_not_trapped {t : State} (h : TrapsOr s p o) (ht : o = .next t) (completed : t.trapped = false) : p t :=
  (h t ht).resolve_left fun early => Bool.noConfusion (completed.symm.trans early.trapped)

end

/-! The instructions that neither read nor write HI or LO: the window ages (70:R470). -/

/-- The window behind an instruction that neither reads nor writes HI or LO. -/
def Ages (s t : State) : Prop := t.hiLo = s.hiLo.age

section

variable {s t : State}

theorem Ages.of_same (same : SameCore s t) {u : State} (h : Ages t u) : Ages s u := by
  rw [Ages, h, same.same]

theorem Ages.advance (s : State) : Ages s s.advance := rfl

theorem Ages.setReg (h : Ages s t) (r : Reg) (v : DWord) : Ages s (t.setReg r v) := (t.setReg_hiLo r v).trans h

theorem Ages.writeReg (s : State) (r : Reg) (v : DWord) : Ages s (s.writeReg r v) := (Ages.advance s).setReg r v

theorem Ages.cp0Write (h : Ages s t) (rd : Reg) (v : DWord) : Ages s (t.cp0Write rd v) := by
  rw [State.cp0Write_frame]
  exact h

theorem Ages.branchState (s : State) (taken : Bool) (offset : BitVec 16) : Ages s (s.branchState taken offset) := by
  cases taken <;> rfl

theorem Ages.branchLikelyState (s : State) (taken : Bool) (offset : BitVec 16) :
    Ages s (s.branchLikelyState taken offset) := by
  cases taken <;> rfl

end

section

variable (s : State)

theorem State.result_ages {r : Reg} {v : DWord} : TrapsOr s (Ages s) (s.result r v) := .next (.writeReg s r v)

theorem State.wordResultOrOverflow_ages {r : Reg} {defined overflows : Bool} {v : Word32} :
    TrapsOr s (Ages s) (s.wordResultOrOverflow r defined overflows v) :=
  .ite (fun _ => .raise _) s.result_ages

theorem State.dwordResult_ages {r : Reg} {v : DWord} : TrapsOr s (Ages s) (s.dwordResult r v) :=
  .requires64 s.result_ages

theorem State.dwordResultOrOverflow_ages {r : Reg} {overflows : Bool} {v : DWord} :
    TrapsOr s (Ages s) (s.dwordResultOrOverflow r overflows v) :=
  .requires64 (.ite (fun _ => .raise _) s.result_ages)

theorem State.execLoad_ages {base rt : Reg} {offset : BitVec 16} {n : Nat} {f : DWord → DWord} :
    TrapsOr s (Ages s) (s.execLoad base rt offset n f) :=
  .finish (s.load_tame ..) fun _ t same => .of_same same (.writeReg t ..)

theorem State.execLoadPart_ages {base rt : Reg} {offset : BitVec 16} {part : Bool → DWord → Part}
    {merge : Nat → DWord → DWord → DWord} : TrapsOr s (Ages s) (s.execLoadPart base rt offset part merge) :=
  .finish (s.loadPart_tame ..) fun _ t same => .of_same same (.writeReg t ..)

theorem State.execStore_ages {base rt : Reg} {offset : BitVec 16} {n : Nat} :
    TrapsOr s (Ages s) (s.execStore base rt offset n) :=
  .finish (s.store_tame ..) fun _ t same => .of_same same (.advance t)

theorem State.execStorePart_ages {base rt : Reg} {offset : BitVec 16} {part : Bool → DWord → Part}
    {value : Nat → DWord → DWord} : TrapsOr s (Ages s) (s.execStorePart base rt offset part value) :=
  .finish (s.storePart_tame ..) fun _ t same => .of_same same (.advance t)

theorem State.jump_ages {target : DWord} : TrapsOr s (Ages s) (s.jump target) := .outsideSlot (.next rfl)

theorem State.jumpAndLink_ages {r : Reg} {target : DWord} : TrapsOr s (Ages s) (s.jumpAndLink r target) :=
  .outsideSlot (.next (Ages.setReg (t := s.branchTo target) rfl ..))

theorem State.branch_ages {taken : Bool} {offset : BitVec 16} : TrapsOr s (Ages s) (s.branch taken offset) :=
  .outsideSlot (.next (.branchState ..))

theorem State.branchAndLink_ages {taken : Bool} {offset : BitVec 16} :
    TrapsOr s (Ages s) (s.branchAndLink taken offset) :=
  .outsideSlot (.next ((Ages.branchState ..).setReg ..))

theorem State.branchLikely_ages {taken : Bool} {offset : BitVec 16} : TrapsOr s (Ages s) (s.branchLikely taken offset) :=
  .outsideSlot (.next (.branchLikelyState ..))

theorem State.branchLikelyAndLink_ages {taken : Bool} {offset : BitVec 16} :
    TrapsOr s (Ages s) (s.branchLikelyAndLink taken offset) :=
  .outsideSlot (.next ((Ages.branchLikelyState ..).setReg ..))

theorem State.trapIf_ages {c : Bool} : TrapsOr s (Ages s) (s.trapIf c) := .ite (fun _ => .raise _) (.next (.advance s))

theorem State.cp0Write_ages {rd : Reg} {v : DWord} : TrapsOr s (Ages s) (.next (s.advance.cp0Write rd v)) :=
  .next ((Ages.advance s).cp0Write rd v)

theorem State.tlbWrite_ages {i : BitVec 5} : TrapsOr s (Ages s) (s.tlbWrite i) :=
  .ite (fun _ => .next (Ages.advance s)) (.refused _)

theorem execTlbp_ages : TrapsOr s (Ages s) (execTlbp s) := by
  refine .requiresCp0 ?_
  split
  · exact .next (Ages.advance s)
  · exact .next (Ages.advance s)
  · exact .trapped (.tlbShutdown s)

theorem State.enterPowerMode_ages {m : PowerMode} : TrapsOr s (Ages s) (s.enterPowerMode m) :=
  .requiresCp0 (.next (Ages.advance s))

theorem State.cacheOperation_ages {base : Reg} {offset : BitVec 16} {op : DWord → PAddr → State → Access Unit}
    (tame : ∀ va pa t, (op va pa t).Tame t) : TrapsOr s (Ages s) (s.cacheOperation base offset op) :=
  .cacheOperation_tame tame fun t same => .of_same same (.advance t)

end

/-- The instructions that write HI or LO (70:R470). -/
def hiLoWriters (rs rt : Reg) : List Instr :=
  [.mult rs rt, .multu rs rt, .div rs rt, .divu rs rt, .dmult rs rt, .dmultu rs rt, .ddiv rs rt, .ddivu rs rt,
    .madd16 rs rt, .dmadd16 rs rt, .mthi rs, .mtlo rs]

/-- Every instruction but ERET that neither reads nor writes HI or LO ends early or lets the window age. -/
theorem exec_ages {i : Instr} (s : State) (notReader : ∀ rd, i ≠ .mfhi rd ∧ i ≠ .mflo rd) (notEret : i ≠ .eret)
    (notWriter : ∀ rs rt, i ∉ hiLoWriters rs rt) : TrapsOr s (Ages s) (exec i s) := by
  cases i with
  | mfhi rd => exact absurd rfl (notReader rd).1
  | mflo rd => exact absurd rfl (notReader rd).2
  | eret => exact absurd rfl notEret
  | mult rs rt | multu rs rt | div rs rt | divu rs rt | dmult rs rt | dmultu rs rt | ddiv rs rt | ddivu rs rt
  | madd16 rs rt | dmadd16 rs rt => exact absurd (by simp [hiLoWriters]) (notWriter rs rt)
  | mthi rs | mtlo rs => exact absurd (by simp [hiLoWriters]) (notWriter rs 0)
  | lb | lbu | lh | lhu | lw => exact s.execLoad_ages
  | lwu | ld => exact .requires64 s.execLoad_ages
  | lwl | lwr => exact s.execLoadPart_ages
  | ldl | ldr => exact .requires64 s.execLoadPart_ages
  | sb | sh | sw => exact s.execStore_ages
  | sd => exact .requires64 s.execStore_ages
  | swl | swr => exact s.execStorePart_ages
  | sdl | sdr => exact .requires64 s.execStorePart_ages
  | addi | add | sub => exact s.wordResultOrOverflow_ages
  | addiu | slti | sltiu | andi | ori | xori | lui | addu | subu | slt | sltu | and | or | xor | nor | sll | srl | sra | sllv
  | srlv | srav => exact s.result_ages
  | daddi | dadd | dsub => exact s.dwordResultOrOverflow_ages
  | daddiu | daddu | dsubu | dsll | dsrl | dsra | dsll32 | dsrl32 | dsra32 | dsllv | dsrlv | dsrav =>
    exact s.dwordResult_ages
  | j | jr => exact s.jump_ages
  | jal | jalr => exact s.jumpAndLink_ages
  | beq | bne | blez | bgtz | bltz | bgez => exact s.branch_ages
  | bltzal | bgezal => exact s.branchAndLink_ages
  | beql | bnel | blezl | bgtzl | bltzl | bgezl => exact s.branchLikely_ages
  | bltzall | bgezall => exact s.branchLikelyAndLink_ages
  | sync => exact .next (.advance s)
  | tge | tgeu | tlt | tltu | teq | tne | tgei | tgeiu | tlti | tltiu | teqi | tnei => exact s.trapIf_ages
  | syscall | brk | ll | sc | lld | scd | cop1 | lwc1 | swc1 | ldc1 | sdc1 | cop2 | cop3 | lwc2 | swc2 | ldc2 | sdc2 =>
    exact .raise _
  | mfc0 => exact .requiresCp0 (.namesCp0Register s.result_ages)
  | dmfc0 => exact .requiresCp0 (.requires64 (.namesCp0Register (.ite (fun _ => s.result_ages) (.refused _))))
  | mtc0 => exact .requiresCp0 (.namesCp0Register (.inDefinedMode ((Ages.advance s).cp0Write ..)))
  | dmtc0 => exact .requiresCp0 (.requires64 (.namesCp0Register (.ite (fun _ => s.cp0Write_ages) (.refused _))))
  | tlbr => exact .requiresCp0 (.next (Ages.advance s))
  | tlbwi | tlbwr => exact .requiresCp0 s.tlbWrite_ages
  | tlbp => exact execTlbp_ages s
  | cacheIndexLoadTagI | cacheIndexLoadTagD => exact .cacheOperation fun _ _ => ⟨_, rfl, rfl⟩
  | cacheIndexInvalidateI => exact s.cacheOperation_ages indexInvalidateI_tame
  | cacheIndexWriteBackInvalidateD => exact s.cacheOperation_ages indexWriteBackInvalidateD_tame
  | cacheIndexStoreTagI => exact s.cacheOperation_ages indexStoreTagI_tame
  | cacheIndexStoreTagD => exact s.cacheOperation_ages indexStoreTagD_tame
  | cacheCreateDirtyD => exact s.cacheOperation_ages createDirtyD_tame
  | cacheHitInvalidateI => exact s.cacheOperation_ages hitInvalidateI_tame
  | cacheHitInvalidateD => exact s.cacheOperation_ages hitInvalidateD_tame
  | cacheFillI => exact s.cacheOperation_ages fillI_tame
  | cacheHitWriteBackInvalidateD => exact s.cacheOperation_ages hitWriteBackInvalidateD_tame
  | cacheHitWriteBackI => exact s.cacheOperation_ages hitWriteBackI_tame
  | cacheHitWriteBackD => exact s.cacheOperation_ages hitWriteBackD_tame
  | standby | suspend | hibernate => exact s.enterPowerMode_ages

/-! The instructions that read or write HI or LO (70:R470, U13). -/

/-- The window and the registers behind an instruction that writes HI or LO. -/
structure Spoils (s t : State) : Prop where
  window : t.hiLo = s.hiLo.afterWrite
  others : KeepsRegs s.hazardRegs s t

theorem Spoils.writeHiLo (s : State) (hi lo : DWord) (cycles : Nat) : Spoils s (s.hiLoHazard.writeHiLo hi lo cycles) where
  window := by rw [s.hiLoHazard_spec.1]; rfl
  others := s.hiLoHazard_spec.2

theorem exec_spoils {rs rt : Reg} {i : Instr} (s : State) (writer : i ∈ hiLoWriters rs rt) :
    TrapsOr s (Spoils s) (exec i s) := by
  have operation {cycles : Nat} {f : DWord → DWord → Option HiLo} : TrapsOr s (Spoils s) (s.execHiLo rs rt cycles f) :=
    .next (.writeHiLo ..)
  have operation64 {cycles : Nat} {f : DWord → DWord → Option HiLo} :
      TrapsOr s (Spoils s) (s.requires64 (s.execHiLo rs rt cycles f)) := .requires64 operation
  revert i
  simp only [hiLoWriters, List.forall_mem_cons, List.not_mem_nil, false_imp_iff, implies_true, and_true]
  exact ⟨operation, operation, operation, operation, operation64, operation64, operation64,
    operation64, operation, operation64, .next (.writeHiLo ..), .next (.writeHiLo ..)⟩

/-- What ends an instruction early leaves the general registers alone. -/
theorem Trapped.keepsRegs {s t : State} (h : Trapped s t) : KeepsRegs [] s t := by
  obtain ⟨u, same, ⟨e, rfl⟩ | rfl | rfl⟩ := h
  · exact fun r none => (u.takeException_keepsRegs e r none).trans (same.reg r)
  · exact fun r _ => same.reg r
  · exact fun r _ => same.reg r

/-- An instruction that writes HI or LO opens the registers just read and no others, also where it ends early. -/
theorem exec_writer_keepsRegs {rs rt : Reg} {i : Instr} {s t : State} (writer : i ∈ hiLoWriters rs rt)
    (ht : exec i s = .next t) : KeepsRegs s.hazardRegs s t :=
  (exec_spoils s writer t ht).elim (fun early r _ => early.keepsRegs r List.not_mem_nil) (·.others)

theorem exec_reader_hiLo {rd : Reg} {i : Instr} {s t : State} (reader : i = .mfhi rd ∨ i = .mflo rd)
    (ht : exec i s = .next t) : t.hiLo = s.hiLo.afterRead rd := by
  rcases reader with rfl | rfl
  · cases ht; rfl
  · cases ht; rfl

/-! The registers that lose their values. -/

/-- Each register listed has its open value, but for r0, and no other one changes. -/
theorem State.reg_forget (rs : List Reg) (kind : Reg → OpenValue) (s : State) (r : Reg) :
    (s.forget rs kind).reg r = if r ≠ 0 ∧ r ∈ rs then s.freeWord (kind r) else s.reg r := by
  split
  · exact State.forget_reg kind s ‹r ≠ 0 ∧ r ∈ rs›.2 ‹r ≠ 0 ∧ r ∈ rs›.1
  · rename_i keeps
    by_cases zero : r = 0
    · rw [zero, State.reg_zero, State.reg_zero]
    · exact (State.forget_spec rs kind s).2 r fun listed => keeps ⟨zero, listed⟩

@[simp] theorem State.forget_nil (kind : Reg → OpenValue) (s : State) : s.forget [] kind = s := rfl

theorem State.hiLoHazard_of_no_window {s : State} (last : s.hiLo.last = []) (beforeLast : s.hiLo.beforeLast = []) :
    s.hiLoHazard = s := by
  rw [State.hiLoHazard, State.hazardRegs, last, beforeLast, List.append_nil, State.forget_nil]

theorem State.settleHazard_next (s t : State) :
    s.settleHazard (.next t) = .next (if t.trapped then t else t.forget s.hiLo.spoiled .hazardAfter) :=
  (apply_ite Host.Outcome.next ..).symm

/-! The return (42:R296; log 19). -/

/-- ERET that completes is the return to its target, with the Status it makes (45:R369). -/
theorem exec_eret_eq_next {s t : State} (ht : exec .eret s = .next t) (completed : t.trapped = false) :
    t = (s.returnTo s.returnTarget).mapStatus fun _ => s.returnStatus := by
  rcases State.requiresCp0_eq_next ht with ⟨-, ht⟩ | ⟨-, rfl⟩
  · obtain ⟨-, ht⟩ := State.outsideSlot_eq_next ht
    exact (State.inDefinedMode_eq_next ht).1.trans s.returnFromException_eq
  · exact Bool.noConfusion (completed.symm.trans (s.takeException_trapped _))

/-- The registers with a property are open behind a return, but for r0, and the others are as before. -/
def OpensAfter (s t : State) (p : Reg → Prop) : Prop :=
  ∀ r, (r ≠ 0 ∧ p r → t.reg r = Config.openWord (.hazardAfter r) s.freeCount) ∧ (¬(r ≠ 0 ∧ p r) → t.reg r = s.reg r)

/-- A return opens the registers of a window that ended with a skipped instruction. -/
theorem State.returnTo_opensAfter {a : DWord} {s : State} {p : Reg → Prop}
    (spoiled : ∀ r, r ∈ (s.returnWindow true a).spoiled ↔ p r) : OpensAfter s (s.returnTo a) p := by
  intro r
  have reg : (s.returnTo a).reg r = _ := State.reg_forget _ .hazardAfter s r
  rw [← spoiled r, reg]
  exact ⟨fun opened => if_pos opened, fun kept => if_neg kept⟩

/-- What a return makes of the window and the registers where it is certain which program it goes on with. -/
theorem State.returnTo_of_certain {a : DWord} {s : State} {w : SavedWindow} (program : s.returnProgram a = some w) :
    (w.addr = a ∧ (s.returnTo a).hiLo = { w.window with beforeLast := w.window.beforeLast ++ s.hiLo.last }
        ∧ OpensAfter s (s.returnTo a) fun _ => False)
      ∨ (w.addr = a - 4 ∧ (s.returnTo a).hiLo = { last := [], beforeLast := w.window.last ++ s.hiLo.last, spoiled := [] }
        ∧ OpensAfter s (s.returnTo a) (· ∈ w.window.spoiled)) := by
  obtain ⟨-, -, sure⟩ := State.returnProgram_eq_some program
  obtain ⟨near, -, -⟩ := State.surelyResumes_iff.1 sure
  rcases SavedWindow.near_iff.1 near with here | skipped
  · obtain ⟨window, spoiled⟩ := State.windowAt_resumed program here
    exact .inl ⟨here, window, State.returnTo_opensAfter fun r => by rw [spoiled]; exact List.mem_nil_iff r⟩
  · obtain ⟨window, spoiled⟩ := State.windowAt_skipped program skipped
    exact .inr ⟨skipped, window, State.returnTo_opensAfter fun r => by rw [spoiled]⟩

/-- The registers of the window behind a return where no program is certain. -/
theorem State.mem_windowAt_open {a : DWord} {s : State} (none : s.returnProgram a = none) (r : Reg) :
    (r ∈ (s.windowAt a).last ↔ s.MayResume a false (·.last) r)
    ∧ (r ∈ (s.windowAt a).beforeLast ↔
      s.MayResume a false (·.beforeLast) r ∨ s.MayResume a true (·.last) r ∨ r ∈ s.hiLo.last)
    ∧ (r ∈ (s.windowAt a).spoiled ↔ s.MayResume a false (·.spoiled) r) := by
  obtain ⟨last, beforeLast, spoiled⟩ := State.mem_returnWindow_open none false r
  obtain ⟨skippedLast, -, -⟩ := State.mem_returnWindow_open none true r
  refine ⟨last, ?_, spoiled⟩
  rw [← beforeLast, ← skippedLast]
  simp [State.windowAt, HiLoWindow.age]

/-- Where a waiting program is certain, the return finds it, or one that agrees with it. -/
theorem State.returnProgram_of_surelyResumes {a : DWord} {s : State} {w : SavedWindow} (waits : w ∈ s.waiting)
    (sure : s.surelyResumes a w = true) : ∃ v, s.returnProgram a = some v ∧ v.addr = w.addr ∧ v.window = w.window := by
  obtain ⟨v, program⟩ := Option.isSome_iff_exists.1 (List.find?_isSome.2 ⟨w, waits, sure⟩)
  refine ⟨v, program, ?_⟩
  obtain ⟨saved, waiting, sureV⟩ := State.returnProgram_eq_some program
  obtain ⟨near, -, all⟩ := State.surelyResumes_iff.1 sure
  obtain ⟨nearV, -, allV⟩ := State.surelyResumes_iff.1 sureV
  -- If they do not agree, each of the two has fewer registers that differ than the other one.
  rcases all v (State.mem_waiting.2 ⟨saved, waiting⟩) with agrees | ⟨-, far⟩ | ⟨fewer, -⟩
  · exact agrees
  · exact absurd nearV far
  · rcases allV w waits with ⟨addr, window⟩ | ⟨-, far⟩ | ⟨fewerV, -⟩
    · exact ⟨addr.symm, window.symm⟩
    · exact absurd near far
    · omega

/-- Settles O34: a writer spoils the window and the others age it; what ERET resumes is what `State.windowAt` says, for a program
that is certain and for none. -/
theorem hiLoHazard : Obligations.HiLoHazard := by
  delta Obligations.HiLoHazard
  intro writers
  refine ⟨fun rd i s t => exec_reader_hiLo, fun i s t notReader notEret ht completed => ⟨?writer, ?other⟩,
    fun s t ht completed => ⟨?certain, ?uncertain⟩, ?finds, fun rs rt i s t => exec_writer_keepsRegs,
    fun r s => State.reg_forget s.hazardRegs .hazard s r, fun s => State.hiLoHazard_of_no_window,
    fun s t => ⟨?unspoiled, ?settles⟩⟩
  case writer => exact fun rs rt writer => ((exec_spoils s writer).of_not_trapped ht completed).window
  case other => exact fun notWriter => (exec_ages s notReader notEret notWriter).of_not_trapped ht completed
  case certain =>
    obtain rfl := exec_eret_eq_next ht completed
    intro w program
    obtain ⟨saved, waiting, sure⟩ := State.returnProgram_eq_some program
    obtain ⟨-, known, -⟩ := State.surelyResumes_iff.1 sure
    have left := (s.windowsAfter_spec _).2 w program
    exact ⟨saved, waiting, known, State.returnTo_of_certain program,
      fun here alike => left.trans (if_pos ⟨here, alike⟩), fun changed => left.trans (if_neg changed)⟩
  case uncertain =>
    obtain rfl := exec_eret_eq_next ht completed
    intro none resumes
    have spoiled (r : Reg) := (State.mem_returnWindow_open none true r).2.2
    exact ⟨(s.windowsAfter_spec _).1 none, State.returnTo_opensAfter spoiled, State.mem_windowAt_open none⟩
  case finds =>
    intro a s w waits near differing last here known others
    refine State.returnProgram_of_surelyResumes waits
      (State.surelyResumes_iff.2 ⟨SavedWindow.near_iff.2 near, known, fun x hx => ?_⟩)
    rw [SavedWindow.near_iff]
    exact others x hx
  case unspoiled =>
    rw [State.settleHazard_next]
    rintro (early | none)
    · rw [if_pos early]
    · rw [none, State.forget_nil, ite_self]
  case settles =>
    intro completed
    refine ⟨_, (s.settleHazard_next t).trans (by rw [completed]; rfl), (State.forget_spec ..).1, fun r => ?_⟩
    exact State.reg_forget s.hiLo.spoiled .hazardAfter t r

end Sys2Proof.Machine
end
